-- ==== Sys2Proof/Word.lean ====
section
/-! DEFINITION. The values every port of the block carries: bytes, 64-bit command words, 29-bit identifiers and
the eight payload bytes of a frame (spec/20_memory.md R52, R56; spec/30_encoding.md R70). -/

namespace Sys2Proof

/-- One payload byte. -/
abbrev Byte := BitVec 8

/-- A 64-bit word of the command port: `CW` or `DATA` (R75). -/
abbrev Word64 := BitVec 64

/-- A CAN identifier or a key: exactly 29 bits at every port (R56, R70, D29). -/
abbrev Ident := BitVec 29

/-- The eight payload bytes `data[0]` to `data[7]` of a frame, always all eight (R29, R52). -/
structure Payload where
  b0 : Byte := 0
  b1 : Byte := 0
  b2 : Byte := 0
  b3 : Byte := 0
  b4 : Byte := 0
  b5 : Byte := 0
  b6 : Byte := 0
  b7 : Byte := 0
deriving DecidableEq, Repr, Inhabited

/-- The payload of a remote frame: eight zero bytes (R181, D21). -/
def zeroPayload : Payload :=
  { b0 := 0, b1 := 0, b2 := 0, b3 := 0, b4 := 0, b5 := 0, b6 := 0, b7 := 0 }

end Sys2Proof
end

