-- ==== Sys2Proof/Syntax.lean ====
section
/-! DEFINITION. The commands of the block: the pair of words on the command port, and the commands they stand for,
one constructor per row of spec/opcode_table.json. -/

namespace Sys2Proof

/-- What the command port carries for one command: the command word `CW` and the operand `DATA` (R75). -/
structure Command where
  cw   : Word64
  data : Word64 := 0
deriving DecidableEq, Repr, Inhabited

/-- The commands. Every operand has exactly the width of its field in the command word (R76 to R80), before the
truncation of R84. -/
inductive Instr where
  /-- ENCODE, op 0x1 (R103). -/
  | encode (api : BitVec 16) (num mfr type : BitVec 8)
  /-- DECODE, op 0x2 (R104). -/
  | decode (id : Ident)
  /-- KEY, op 0x3 (R105). -/
  | key (num mfr type : BitVec 8)
  /-- MATCH, op 0x4; the key comes from DATA (R123, R77). -/
  | matchKey (id : Ident) (k : Ident)
  /-- BIND, op 0x5 (R140). -/
  | bind (ctrl irq : BitVec 8)
  /-- REGISTER, op 0x6 (R141). -/
  | register (h num mfr type : BitVec 8)
  /-- UNREGISTER, op 0x7 (R143). -/
  | unregister (h : BitVec 8)
  /-- UPDATE, op 0x8 (R160). -/
  | update
  /-- WRITE_PACKET, op 0x9; the payload comes from DATA (R180, R53). -/
  | writePacket (api : BitVec 16) (num mfr type : BitVec 8) (len : BitVec 4) (data : Payload)
  /-- WRITE_RTR, op 0xA (R181). -/
  | writeRtr (api : BitVec 16) (num mfr type : BitVec 8) (len : BitVec 4)
  /-- Reserved opcode 0x0 (R82). -/
  | reserved0
  /-- Reserved opcode 0xB (R82). -/
  | reservedB
  /-- Reserved opcode 0xC (R82). -/
  | reservedC
  /-- Reserved opcode 0xD (R82). -/
  | reservedD
  /-- Reserved opcode 0xE (R82). -/
  | reservedE
  /-- Reserved opcode 0xF (R82). -/
  | reservedF
deriving DecidableEq, Repr, Inhabited

end Sys2Proof
end

