-- ==== Sys2Proof/Config.lean ====
section
/-! DEFINITION. The parameters of the block (spec/00_scope.md R6, R7), and the free values: what the host and the
transport choose, which no rule fixes. A constant without a body is one nothing is known of: a claim that holds of
the model holds for every value of it. -/

namespace Sys2Proof

/-- REG_CAP: registry capacity, entries (R6). -/
def Config.regCap : Nat := 16

/-- MAX_LEN: largest legal length of a frame to be sent, bytes (R6). -/
def Config.maxLen : BitVec 4 := 8

/-- HEARTBEAT_ID: the one identifier value the document fixes; the block has no special case for it (R6, R59). -/
def Config.heartbeatId : Ident := 0x01011840#29

/-- TS_W, the width of a timestamp in bits: OPEN (R7, D28). Log entry 5. -/
opaque Config.tsW : Nat

/-- RXQ_DEPTH less one: OPEN (R7, D27). Log entry 6. -/
opaque Config.rxqDepthLessOne : Nat

/-- RXQ_DEPTH, the transport's receive buffer depth in frames: OPEN, at least 1 (R7, D27). Log entry 6. -/
def Config.rxqDepth : Nat := Config.rxqDepthLessOne + 1

/-- A received frame (R29). No rule reads `ts` (R208), and the block never reads `len` (R167). -/
structure RxFrame where
  id   : Ident
  rtr  : Bool
  len  : BitVec 4
  data : Payload
  ts   : BitVec Config.tsW
deriving DecidableEq, Repr, Inhabited

/-- Whose step comes next (R11, R12), and what that agent does in it. -/
inductive Turn where
  /-- The block takes the step it has: a part of an UPDATE, or a whole command (R12). -/
  | block
  /-- The host presents a command at the command port (R11, R223). -/
  | issue (c : Command)
  /-- The transport delivers a frame (R170). -/
  | arrive (f : RxFrame)
  /-- The transport settles its answer to the next offer no answer is settled for (R88's `@tx`, R182). -/
  | answer (b : Bool)
  /-- The block is reset (R220). -/
  | reset
deriving DecidableEq, Repr, Inhabited

/-- FREE VALUE: the turn taken where the state fixes none, drawn number `n` (R12, R65, R170, R171). Log entry 3. -/
opaque Config.freeTurn : Nat → Turn

/-- FREE VALUE: how many free turns an UPDATE in progress may be kept waiting for its next step, drawn number `n`: any
number, but a finite one, so that its steps are fair (R169). Log entry 12. -/
opaque Config.freeDelay : Nat → Nat

/-- FREE VALUE: the transport's answer to an offer where the state fixes none, drawn number `n` (R182, U9).
Log entry 4. -/
opaque Config.freeAnswer : Nat → Bool

end Sys2Proof
end

