-- ==== Sys2Proof/WellFormed.lean ====
section
/-! DEFINITION. What software owes the words of a command: reserved bits and the fields a command does not use are
written as zero (spec/30_encoding.md R83). The block itself ignores them, so this is no check the block makes.
A term of `Instr` needs no check: its operands have the widths of their fields, and every 29-bit value is a
well-formed identifier (R72). -/

namespace Sys2Proof

/-- The bits of `CW` that the command of opcode `op` reads, `op` itself among them (R76 to R80 and the rules of the
commands). -/
def WellFormed.cwMask (op : BitVec 4) : Word64 :=
  match op with
  | 0x1#4 => 0x000FFFFFFFFFF00F#64  -- ENCODE: num, mfr, type, api
  | 0x2#4 => 0x00000001FFFFFFFF#64  -- DECODE: id
  | 0x3#4 => 0x0000000FFFFFF00F#64  -- KEY: num, mfr, type
  | 0x4#4 => 0x00000001FFFFFFFF#64  -- MATCH: id
  | 0x5#4 => 0x00000000000FFFFF#64  -- BIND: ctrl, irq
  | 0x6#4 => 0x0000000FFFFFFFFF#64  -- REGISTER: h, num, mfr, type
  | 0x7#4 => 0x0000000000000FFF#64  -- UNREGISTER: h
  | 0x9#4 => 0x00FFFFFFFFFFF00F#64  -- WRITE_PACKET: num, mfr, type, api, len
  | 0xA#4 => 0x00FFFFFFFFFFF00F#64  -- WRITE_RTR: num, mfr, type, api, len
  | _     => 0x000000000000000F#64  -- UPDATE and the reserved opcodes: op alone

/-- The bits of `DATA` that the command of opcode `op` reads: the key of MATCH, the payload of WRITE_PACKET (R75). -/
def WellFormed.dataMask (op : BitVec 4) : Word64 :=
  match op with
  | 0x4#4 => 0x000000001FFFFFFF#64
  | 0x9#4 => 0xFFFFFFFFFFFFFFFF#64
  | _     => 0#64

/-- Every bit of `CW` that the command does not read is zero. -/
def WellFormed.cwClean (c : Command) : Bool :=
  c.cw &&& ~~~ WellFormed.cwMask (c.cw.extractLsb' 0 4) == 0#64

/-- Every bit of `DATA` that the command does not read is zero. -/
def WellFormed.dataClean (c : Command) : Bool :=
  c.data &&& ~~~ WellFormed.dataMask (c.cw.extractLsb' 0 4) == 0#64

/-- A command written as R83 asks of software. -/
def WellFormed.command (c : Command) : Bool :=
  WellFormed.cwClean c && WellFormed.dataClean c

end Sys2Proof
end

