-- ==== Sys2Proof/Decode.lean ====
section
/-! DEFINITION. From the words of a command to the command and back (spec/30_encoding.md R75 to R83, R89). The
decoder is total: all sixteen opcodes are rows of the table, every 29-bit value is an identifier (R72), and every
command has the one length (R87), so no word is refused; a reserved opcode is a command of its own (R82). -/

namespace Sys2Proof

/-! ## The payload in DATA (R53) -/

/-- Byte `k` is `DATA[8k+7:8k]` (R53). -/
def payloadOfData (d : Word64) : Payload :=
  { b0 := d.extractLsb' 0 8,  b1 := d.extractLsb' 8 8,  b2 := d.extractLsb' 16 8, b3 := d.extractLsb' 24 8
    b4 := d.extractLsb' 32 8, b5 := d.extractLsb' 40 8, b6 := d.extractLsb' 48 8, b7 := d.extractLsb' 56 8 }

/-- `data[0]` is `DATA[7:0]` and `data[7]` is `DATA[63:56]` (R53). -/
def dataOfPayload (p : Payload) : Word64 :=
  p.b0.setWidth 64 ||| (p.b1.setWidth 64 <<< 8) ||| (p.b2.setWidth 64 <<< 16) ||| (p.b3.setWidth 64 <<< 24)
    ||| (p.b4.setWidth 64 <<< 32) ||| (p.b5.setWidth 64 <<< 40) ||| (p.b6.setWidth 64 <<< 48)
    ||| (p.b7.setWidth 64 <<< 56)

/-- The payload written as a list of bytes, `data[0]` first, missing bytes 0 (R88). -/
def payloadOfBytes (bs : List Byte) : Payload :=
  { b0 := bs.getD 0 0, b1 := bs.getD 1 0, b2 := bs.getD 2 0, b3 := bs.getD 3 0
    b4 := bs.getD 4 0, b5 := bs.getD 5 0, b6 := bs.getD 6 0, b7 := bs.getD 7 0 }

/-! ## Decoding -/

/-- `CW[3:0]`, which alone selects the command (R81). -/
def opOf (c : Command) : BitVec 4 := c.cw.extractLsb' 0 4

/-- Field `h` of Formats I and H (R76, R78). -/
def fieldH (c : Command) : BitVec 8 := c.cw.extractLsb' 4 8

/-- Field `num` of Format I (R76). -/
def fieldNum (c : Command) : BitVec 8 := c.cw.extractLsb' 12 8

/-- Field `mfr` of Format I (R76). -/
def fieldMfr (c : Command) : BitVec 8 := c.cw.extractLsb' 20 8

/-- Field `type` of Format I (R76). -/
def fieldType (c : Command) : BitVec 8 := c.cw.extractLsb' 28 8

/-- Field `api` of Format I (R76). -/
def fieldApi (c : Command) : BitVec 16 := c.cw.extractLsb' 36 16

/-- Field `len` of Format I (R76). -/
def fieldLen (c : Command) : BitVec 4 := c.cw.extractLsb' 52 4

/-- Field `id` of Format D (R77). -/
def fieldId (c : Command) : Ident := c.cw.extractLsb' 4 29

/-- The key of MATCH, `DATA[28:0]` (R77). -/
def fieldKey (c : Command) : Ident := c.data.extractLsb' 0 29

/-- Field `ctrl` of Format B (R79). -/
def fieldCtrl (c : Command) : BitVec 8 := c.cw.extractLsb' 4 8

/-- Field `irq` of Format B (R79). -/
def fieldIrq (c : Command) : BitVec 8 := c.cw.extractLsb' 12 8

/-- The command that the words stand for (R81): every value of `CW[3:0]` is a row of the opcode table. -/
def decode (c : Command) : Instr :=
  match opOf c with
  | 0x0#4 => .reserved0
  | 0x1#4 => .encode (fieldApi c) (fieldNum c) (fieldMfr c) (fieldType c)
  | 0x2#4 => .decode (fieldId c)
  | 0x3#4 => .key (fieldNum c) (fieldMfr c) (fieldType c)
  | 0x4#4 => .matchKey (fieldId c) (fieldKey c)
  | 0x5#4 => .bind (fieldCtrl c) (fieldIrq c)
  | 0x6#4 => .register (fieldH c) (fieldNum c) (fieldMfr c) (fieldType c)
  | 0x7#4 => .unregister (fieldH c)
  | 0x8#4 => .update
  | 0x9#4 => .writePacket (fieldApi c) (fieldNum c) (fieldMfr c) (fieldType c) (fieldLen c) (payloadOfData c.data)
  | 0xA#4 => .writeRtr (fieldApi c) (fieldNum c) (fieldMfr c) (fieldType c) (fieldLen c)
  | 0xB#4 => .reservedB
  | 0xC#4 => .reservedC
  | 0xD#4 => .reservedD
  | 0xE#4 => .reservedE
  | _     => .reservedF  -- 0xF, the one value left

/-! ## Encoding (R89) -/

/-- The command word of a Format I command; a field left out is 0 (R89, R88). -/
def formatI (op : BitVec 4) (h num mfr type : BitVec 8 := 0) (api : BitVec 16 := 0) (len : BitVec 4 := 0) : Word64 :=
  op.setWidth 64 ||| (h.setWidth 64 <<< 4) ||| (num.setWidth 64 <<< 12) ||| (mfr.setWidth 64 <<< 20)
    ||| (type.setWidth 64 <<< 28) ||| (api.setWidth 64 <<< 36) ||| (len.setWidth 64 <<< 52)

/-- The command word of a Format D command (R89). -/
def formatD (op : BitVec 4) (id : Ident) : Word64 := op.setWidth 64 ||| (id.setWidth 64 <<< 4)

/-- The command word of a Format H command (R89). -/
def formatH (op : BitVec 4) (h : BitVec 8) : Word64 := op.setWidth 64 ||| (h.setWidth 64 <<< 4)

/-- The command word of a Format B command (R89). -/
def formatB (op : BitVec 4) (ctrl irq : BitVec 8) : Word64 :=
  op.setWidth 64 ||| (ctrl.setWidth 64 <<< 4) ||| (irq.setWidth 64 <<< 12)

/-- The command word of a Format N command, and of a reserved opcode with every other bit zero (R89, R82). -/
def formatN (op : BitVec 4) : Word64 := op.setWidth 64

/-- The words of a command, with reserved bits and unused fields zero (R81, R83, R89). -/
def encode (i : Instr) : Command :=
  match i with
  | .encode api num mfr type => { cw := formatI 0x1 (num := num) (mfr := mfr) (type := type) (api := api) }
  | .decode id => { cw := formatD 0x2 id }
  | .key num mfr type => { cw := formatI 0x3 (num := num) (mfr := mfr) (type := type) }
  | .matchKey id k => { cw := formatD 0x4 id, data := k.setWidth 64 }
  | .bind ctrl irq => { cw := formatB 0x5 ctrl irq }
  | .register h num mfr type => { cw := formatI 0x6 (h := h) (num := num) (mfr := mfr) (type := type) }
  | .unregister h => { cw := formatH 0x7 h }
  | .update => { cw := formatN 0x8 }
  | .writePacket api num mfr type len data =>
      { cw := formatI 0x9 (num := num) (mfr := mfr) (type := type) (api := api) (len := len)
        data := dataOfPayload data }
  | .writeRtr api num mfr type len =>
      { cw := formatI 0xA (num := num) (mfr := mfr) (type := type) (api := api) (len := len) }
  | .reserved0 => { cw := formatN 0x0 }
  | .reservedB => { cw := formatN 0xB }
  | .reservedC => { cw := formatN 0xC }
  | .reservedD => { cw := formatN 0xD }
  | .reservedE => { cw := formatN 0xE }
  | .reservedF => { cw := formatN 0xF }

/-- The opcode of a command, as R81's table gives it. -/
def opcodeOf (i : Instr) : BitVec 4 :=
  match i with
  | .encode _ _ _ _ => 0x1
  | .decode _ => 0x2
  | .key _ _ _ => 0x3
  | .matchKey _ _ => 0x4
  | .bind _ _ => 0x5
  | .register _ _ _ _ => 0x6
  | .unregister _ => 0x7
  | .update => 0x8
  | .writePacket _ _ _ _ _ _ => 0x9
  | .writeRtr _ _ _ _ _ => 0xA
  | .reserved0 => 0x0
  | .reservedB => 0xB
  | .reservedC => 0xC
  | .reservedD => 0xD
  | .reservedE => 0xE
  | .reservedF => 0xF

/-! ## The host's view of a word of the opcode table -/

/-- The command whose bits are `w`, numbered as spec/opcode_table.json numbers them: `CW` is bits 63..0 and `DATA`
bits 127..64; every bit from `nbits` on is 0. Log entry 16. -/
def commandOfTable (nbits w : Nat) : Command :=
  let bits := w % 2 ^ nbits
  { cw := BitVec.ofNat 64 bits, data := BitVec.ofNat 64 (bits / 2 ^ 64) }

/-- What the decoder reads from a word of the opcode table. No command has more than 128 bits (R75, R87). -/
def decodeTableWord (nbits w : Nat) : Option Instr :=
  if nbits ≤ 128 then some (decode (commandOfTable nbits w)) else none

end Sys2Proof
end

