-- ==== Sys2Proof/Machine/State.lean ====
section
/-! DEFINITION. The state of the block (spec/10_state.md R20 to R31), the ports around it, the result record
(spec/30_encoding.md R85, R86), the reasons a step can stop, and the power-on state (R36). -/

namespace Sys2Proof.Machine

/-- A registered device: the host's name for it and its key (R22). -/
structure Entry where
  handle : BitVec 8
  key    : Ident
deriving DecidableEq, Repr

/-- A frame handed to the transport (R31). -/
structure TxFrame where
  id   : Ident
  rtr  : Bool
  len  : BitVec 4
  data : Payload
deriving DecidableEq, Repr

/-- An event handed to the consumer (R30). -/
inductive Event where
  /-- R30's `Match`: a frame matched a registry entry (R163). -/
  | matched (handle : BitVec 8) (sub : BitVec 10) (rtr : Bool) (len : BitVec 4) (data : Payload)
  /-- R30's `Unknown`: a frame matched no entry (R164). -/
  | unknown (id : Ident) (len : BitVec 4) (data : Payload)
deriving DecidableEq, Repr

/-- The statuses a command returns; the codes 0x7 to 0xF are never returned (R85). -/
inductive Status where
  | ok
  | capacityExceeded
  | notBound
  | transportRejected
  | lengthInvalid
  | illegalOp
  | alreadyBound
deriving DecidableEq, Repr

/-- The result record. A field that a command's rule does not name is 0 (R86). -/
structure Result where
  status : Status
  id     : Ident := 0
  hit    : Bool := false
  sub    : BitVec 10 := 0
  dtype  : BitVec 5 := 0
  mfr    : BitVec 8 := 0
  api    : BitVec 10 := 0
  idx    : BitVec 4 := 0
  num    : BitVec 6 := 0
deriving DecidableEq, Repr

/-- The fields of an identifier, as `Dec` gives them (R101). -/
structure IdFields where
  dtype : BitVec 5
  mfr   : BitVec 8
  api   : BitVec 10
  idx   : BitVec 4
  num   : BitVec 6
deriving DecidableEq, Repr

/-- The state. The first eight fields are the whole state of the block, R20's record. The others are the model's
own: the ports and agents around the block, which the spec keeps out of the block's state (R20, R33). -/
structure State where
  /-- The registry, in registration order, at most 16 entries (R21). -/
  reg : List Entry
  /-- The transport is bound (R25). -/
  bound : Bool
  /-- The controller handle given to BIND; opaque (R25). -/
  ctrl : BitVec 8
  /-- The interrupt/signal line identifier given to BIND; opaque (R25, R205). -/
  irq : BitVec 8
  /-- An UPDATE is in progress (R27). -/
  busy : Bool
  /-- The receive queue, head first, at most `Config.rxqDepth` frames (R28). -/
  rxq : List RxFrame
  /-- The events handed to the consumer, oldest first (R30). -/
  evlog : List Event
  /-- The frames the transport accepted for sending, oldest first (R31). -/
  txlog : List TxFrame
  /-- The model's own: the commands that wait at the command port, oldest first (R223). Log entry 1. -/
  port : List Command
  /-- The model's own: the results returned on the result port, oldest first (R33, R86). Log entry 2. -/
  results : List Result
  /-- The model's own: whose steps come next, in order; after them the turns are free values. Log entry 3. -/
  agenda : List Turn
  /-- The model's own: the answers the transport has settled for the next offers, in order; after them the answers
  are free values. Log entry 4. -/
  txPlan : List Bool
  /-- The model's own: how many more free turns may pass before an UPDATE in progress takes its next step (R169).
  Log entry 12. -/
  delay : Nat
  /-- The model's own: how many free values have been drawn. Log entries 3, 4 and 12. -/
  draws : Nat
deriving DecidableEq, Repr

/-- The reasons to stop with a fault: none. "The block raises no exception, trap, abort or fault" (R200), and the
model has no other (log entry 14). -/
inductive Fault where
deriving DecidableEq, Repr

/-- The reasons to refuse an instruction. -/
inductive Refusal where
  /-- The instruction has no meaning in the model yet. Only an arm of `exec` raises it; no arm does now. It would be
  safe: the model stops where the block goes on. -/
  | notModelled (mnemonic : String)
deriving DecidableEq, Repr

/-- The power-on state: the spec's eight elements as R36 gives them, and the model's own fields empty
(log entry 11). -/
def State.reset : State :=
  { reg := [], bound := false, ctrl := 0, irq := 0, busy := false, rxq := [], evlog := [], txlog := []
    port := [], results := [], agenda := [], txPlan := [], delay := 0, draws := 0 }

end Sys2Proof.Machine
end

