-- ==== Sys2Proof/Machine/Operands.lean ====
section
/-! DEFINITION. The Identifier Codec's functions and masks: how operands become identifiers and keys, and back
(spec/40_codec.md R100 to R102; spec/30_encoding.md R70 to R74, R84). -/

namespace Sys2Proof.Machine

/-- MATCH_MASK: device type, manufacturer and device number, not the API id (R73). -/
def matchMask : Ident := 0x1FFF003F#29

/-- EXTRACT_MASK: the API id (R74). -/
def extractMask : Ident := 0x0000FFC0#29

/-- EXTRACT_SHIFT (R74). -/
def extractShift : Nat := 6

/-- `Enc`: each operand truncated to its field's width and put in its field (R84, R100). -/
def enc (api : BitVec 16) (num mfr type : BitVec 8) : Ident :=
  ((type.extractLsb' 0 5).setWidth 29 <<< 24) ||| ((mfr.extractLsb' 0 8).setWidth 29 <<< 16)
    ||| ((api.extractLsb' 0 10).setWidth 29 <<< 6) ||| (num.extractLsb' 0 6).setWidth 29

/-- `Dec`: the four fields of an identifier and the index view of the API id (R71, R101). -/
def dec (id : Ident) : IdFields :=
  { dtype := id.extractLsb' 24 5, mfr := id.extractLsb' 16 8, api := id.extractLsb' 6 10
    idx := id.extractLsb' 6 4, num := id.extractLsb' 0 6 }

/-- `Key`, the device-message-mask: the identifier with the API id zeroed (R102). -/
def keyOf (num mfr type : BitVec 8) : Ident := enc 0 num mfr type

end Sys2Proof.Machine
end

