-- ==== Sys2Proof/Machine/Flags.lean ====
section
/-! DEFINITION. What a command or a dispatch step decides by: the block has no flags register, and these indications
and codes are all it computes (spec/10_state.md R33; spec/41_filter.md R120, R121; spec/43_dispatch.md R162;
spec/30_encoding.md R85; spec/60_exceptions.md R203). -/

namespace Sys2Proof.Machine

/-- The 4-bit code of a status (R85). -/
def statusCode (st : Status) : BitVec 4 :=
  match st with
  | .ok => 0x0
  | .capacityExceeded => 0x1
  | .notBound => 0x2
  | .transportRejected => 0x3
  | .lengthInvalid => 0x4
  | .illegalOp => 0x5
  | .alreadyBound => 0x6

/-- `Mt`: equality of all 29 bits, after masking the identifier and not the key (R120). -/
def matchesKey (id k : Ident) : Bool := (id &&& matchMask) == k

/-- `Sub`: the 10-bit sub-index, which is the whole API id (R121). -/
def subIndex (id : Ident) : BitVec 10 := ((id &&& extractMask) >>> extractShift).setWidth 10

/-- `FirstMatch`: the entry at the least position whose key matches (R162). -/
def firstMatch (reg : List Entry) (id : Ident) : Option Entry := reg.find? fun e => matchesKey id e.key

/-- The registry holds as many entries as it can (R141, R142). -/
def registryFull (s : State) : Bool := s.reg.length == Config.regCap

/-- What ends a transmit command before the transport is asked, in the order the tests are made: `bound`, then
`len` (R203). -/
def transmitFailure (bound : Bool) (len : BitVec 4) : Option Status :=
  if bound = false then some .notBound
  else if Config.maxLen < len then some .lengthInvalid
  else none

end Sys2Proof.Machine
end

