-- ==== Sys2Proof/Machine/Ops.lean ====
section
/-! DEFINITION. The named operations on the state: the primitives of spec/00_scope.md R10, the writes to the registry
and the binding, the steps of the host, the transport and reset, and the choice of whose step comes next. The block
has no memory to read or write (spec/20_memory.md R50). It takes no exception (spec/60_exceptions.md R200, R206):
`fail` stands in that place, the one way in which a command fails. -/

namespace Sys2Proof.Machine

/-! ## The result port -/

/-- `result(...)`: return a result record on the result port (R10, R86). -/
def result (r : Result) (s : State) : State := { s with results := s.results ++ [r] }

/-- The end of a command that cannot do what it was asked: return the status, write no state (R201, R204). -/
def fail (st : Status) (s : State) : State := result { status := st } s

/-! ## The queues and histories -/

/-- `RxPop()`: the head frame of the receive queue, and the state without it (R10, R58). -/
def rxPop (s : State) : Option (RxFrame × State) :=
  match s.rxq with
  | [] => none
  | f :: rest => some (f, { s with rxq := rest })

/-- `EvPush(e)`: hand an event to the consumer, who accepts it (R10, R11, R30). -/
def evPush (e : Event) (s : State) : State := { s with evlog := s.evlog ++ [e] }

/-- The answer the transport gives to an offer made now: the settled one, or a free value (R182). -/
def txAnswer (s : State) : Bool :=
  match s.txPlan with
  | b :: _ => b
  | [] => Config.freeAnswer s.draws

/-- The answer has been given: the next offer has an answer of its own (R182). -/
def txAnswered (s : State) : State :=
  match s.txPlan with
  | _ :: bs => { s with txPlan := bs }
  | [] => { s with draws := s.draws + 1 }

/-- `TxOffer(f)`: offer a frame to the transport; where it accepts, the frame is in the transmit history, and where
it does not, the frame is gone (R10, R182). The Bool is the transport's answer. -/
def txOffer (f : TxFrame) (s : State) : Bool × State :=
  if txAnswer s then (true, { txAnswered s with txlog := s.txlog ++ [f] })
  else (false, txAnswered s)

/-! ## The registry and the binding -/

/-- Append an entry at the tail (R141). -/
def regAppend (e : Entry) (s : State) : State := { s with reg := s.reg ++ [e] }

/-- Remove every entry of a handle, keeping the order of the rest (R143, R144). -/
def regRemove (h : BitVec 8) (s : State) : State := { s with reg := s.reg.filter fun e => e.handle != h }

/-- Bind the transport (R140). -/
def bindTransport (ctrl irq : BitVec 8) (s : State) : State := { s with bound := true, ctrl := ctrl, irq := irq }

/-! ## Steps of the other agents -/

/-- The transport has an arrival step (R170). -/
def arrivalEnabled (s : State) : Bool := s.bound && decide (s.rxq.length < Config.rxqDepth)

/-- Arrival of a frame, at the tail of the receive queue. Where the transport has no arrival step the frame is one
that never arrives (R170). Log entry 8. -/
def arrive (f : RxFrame) (s : State) : State :=
  if arrivalEnabled s then { s with rxq := s.rxq ++ [f] } else s

/-- The host presents a command, which waits at the command port (R11, R223). -/
def issue (c : Command) (s : State) : State := { s with port := s.port ++ [c] }

/-- The transport settles its answer to the next offer no answer is settled for (R88). -/
def settleAnswer (b : Bool) (s : State) : State := { s with txPlan := s.txPlan ++ [b] }

/-- A reset: the block's elements as R36 and R220 say, the histories as they were (R58). What is not the block's
(the host's waiting commands, the other agents' plans) stays. Log entry 9. -/
def resetBlock (s : State) : State :=
  { s with reg := [], bound := false, ctrl := 0, irq := 0, busy := false, rxq := [] }

/-- The turn where the agenda fixes none, a free value (R12, R65), and the state with that choice made. While an UPDATE is
in progress, other turns come before the block's only as often as `delay` allows, and then a new delay is drawn. So an
enabled dispatch or end step is taken, and an UPDATE ends where finitely many frames arrive (R169, R232). With no UPDATE
in progress each turn draws a new delay. Log entries 3 and 12. -/
def openTurn (s : State) : Turn × State :=
  if s.busy then
    match s.delay with
    | 0 => (.block, { s with delay := Config.freeDelay s.draws, draws := s.draws + 1 })
    | d + 1 => (Config.freeTurn s.draws, { s with delay := d, draws := s.draws + 1 })
  else (Config.freeTurn s.draws, { s with delay := Config.freeDelay s.draws, draws := s.draws + 1 })

/-- The turn taken in state `s`, and the state with that choice made: the agenda's head, or an open turn
(R12, R65). -/
def nextTurn (s : State) : Turn × State :=
  match s.agenda with
  | t :: rest => (t, { s with agenda := rest })
  | [] => openTurn s

end Sys2Proof.Machine
end

