-- ==== Sys2Proof/Machine/Codec.lean ====
section
/-! DEFINITION. ENCODE, DECODE and KEY (spec/40_codec.md). -/

namespace Sys2Proof.Machine

/-- ENCODE: pack an identifier (R103). -/
def execEncode (api : BitVec 16) (num mfr type : BitVec 8) (s : State) : Host.Outcome State Fault Refusal :=
  .next (result { status := .ok, id := enc api num mfr type } s)

/-- DECODE: unpack an identifier (R104). -/
def execDecode (id : Ident) (s : State) : Host.Outcome State Fault Refusal :=
  let d := dec id
  .next (result { status := .ok, dtype := d.dtype, mfr := d.mfr, api := d.api, idx := d.idx, num := d.num } s)

/-- KEY: derive a device-message-mask (R105). -/
def execKey (num mfr type : BitVec 8) (s : State) : Host.Outcome State Fault Refusal :=
  .next (result { status := .ok, id := keyOf num mfr type } s)

end Sys2Proof.Machine
end

