-- ==== Sys2Proof/Machine/Filter.lean ====
section
/-! DEFINITION. MATCH (spec/41_filter.md). -/

namespace Sys2Proof.Machine

/-- MATCH: test an identifier against a key; no match is `hit = 0`, not an error (R123). -/
def execMatch (id k : Ident) (s : State) : Host.Outcome State Fault Refusal :=
  if matchesKey id k then .next (result { status := .ok, hit := true, sub := subIndex id } s)
  else .next (result { status := .ok, hit := false, sub := 0 } s)

end Sys2Proof.Machine
end

