-- ==== Sys2Proof/Machine/Registry.lean ====
section
/-! DEFINITION. BIND, REGISTER and UNREGISTER (spec/42_registry.md). -/

namespace Sys2Proof.Machine

/-- BIND: bind the transport, once (R140). -/
def execBind (ctrl irq : BitVec 8) (s : State) : Host.Outcome State Fault Refusal :=
  if s.bound then .next (fail .alreadyBound s)
  else .next (result { status := .ok } (bindTransport ctrl irq s))

/-- REGISTER: append a device, unless the registry is full (R141, R142). Neither its key nor its handle is compared
with those of other entries (R146, D9), and `bound` is not read (R145). -/
def execRegister (h num mfr type : BitVec 8) (s : State) : Host.Outcome State Fault Refusal :=
  if registryFull s then .next (fail .capacityExceeded s)
  else .next (result { status := .ok } (regAppend { handle := h, key := keyOf num mfr type } s))

/-- UNREGISTER: remove every entry of a handle; always OK (R143). -/
def execUnregister (h : BitVec 8) (s : State) : Host.Outcome State Fault Refusal :=
  .next (result { status := .ok } (regRemove h s))

end Sys2Proof.Machine
end

