-- ==== Sys2Proof/Machine/Reserved.lean ====
section
/-! DEFINITION. The reserved opcodes 0x0 and 0xB to 0xF: ILLEGAL_OP, no state written (spec/30_encoding.md R82). -/

namespace Sys2Proof.Machine

/-- Reserved opcode 0x0 (R82). -/
def execReserved0 (s : State) : Host.Outcome State Fault Refusal := .next (fail .illegalOp s)

/-- Reserved opcode 0xB (R82). -/
def execReservedB (s : State) : Host.Outcome State Fault Refusal := .next (fail .illegalOp s)

/-- Reserved opcode 0xC (R82). -/
def execReservedC (s : State) : Host.Outcome State Fault Refusal := .next (fail .illegalOp s)

/-- Reserved opcode 0xD (R82). -/
def execReservedD (s : State) : Host.Outcome State Fault Refusal := .next (fail .illegalOp s)

/-- Reserved opcode 0xE (R82). -/
def execReservedE (s : State) : Host.Outcome State Fault Refusal := .next (fail .illegalOp s)

/-- Reserved opcode 0xF (R82). -/
def execReservedF (s : State) : Host.Outcome State Fault Refusal := .next (fail .illegalOp s)

end Sys2Proof.Machine
end

