-- ==== Sys2Proof/Machine/Transmit.lean ====
section
/-! DEFINITION. WRITE_PACKET and WRITE_RTR (spec/44_transmit.md). Neither reads the registry (R183). -/

namespace Sys2Proof.Machine

/-- What both transmit commands do with their frame: fail where `bound` or the frame's length says so, else offer it
to the transport and return the transport's answer (R180, R181, R182). -/
def transmit (f : TxFrame) (s : State) : State :=
  match transmitFailure s.bound f.len with
  | some st => fail st s
  | none =>
    match txOffer f s with
    | (true, s') => result { status := .ok } s'
    | (false, s') => fail .transportRejected s'

/-- WRITE_PACKET: send a data frame with all eight bytes of DATA (R180). -/
def execWritePacket (api : BitVec 16) (num mfr type : BitVec 8) (len : BitVec 4) (data : Payload) (s : State) :
    Host.Outcome State Fault Refusal :=
  .next (transmit { id := enc api num mfr type, rtr := false, len := len, data := data } s)

/-- WRITE_RTR: send a remote-transmission-request frame, its bytes all zero (R181, R184). -/
def execWriteRtr (api : BitVec 16) (num mfr type : BitVec 8) (len : BitVec 4) (s : State) :
    Host.Outcome State Fault Refusal :=
  .next (transmit { id := enc api num mfr type, rtr := true, len := len, data := zeroPayload } s)

end Sys2Proof.Machine
end

