-- ==== Sys2Proof/Machine/Update.lean ====
section
/-! DEFINITION. UPDATE: its start step, which is the meaning of the command, and the dispatch and end steps that the
block takes while `busy` (spec/43_dispatch.md). -/

namespace Sys2Proof.Machine

/-- UPDATE, start step (R160): its result comes at the end step. -/
def execUpdate (s : State) : Host.Outcome State Fault Refusal :=
  if s.bound then .next { s with busy := true } else .next (fail .notBound s)

/-- The event of one frame: the match path with the first entry that matches, or the unknown path (R161 to R164).
Neither `len` nor `ts` decides anything (R167, R208). -/
def eventOf (reg : List Entry) (f : RxFrame) : Event :=
  match firstMatch reg f.id with
  | some e => .matched e.handle (subIndex f.id) f.rtr f.len f.data
  | none => .unknown f.id f.len f.data

/-- UPDATE, end step (R165). -/
def endStep (s : State) : State := result { status := .ok } { s with busy := false }

/-- The step the block takes while an UPDATE is in progress: the dispatch step where a frame waits (R161), the end
step where none does (R165). -/
def updateStep (s : State) : State :=
  match rxPop s with
  | some (f, s') => evPush (eventOf s.reg f) s'
  | none => endStep s

end Sys2Proof.Machine
end

