-- ==== Sys2Proof/Machine/Dispatch.lean ====
section
/-! DEFINITION. One arm per command: what the block does with a command it has accepted. -/

namespace Sys2Proof.Machine

def exec (i : Instr) (s : State) : Host.Outcome State Fault Refusal :=
  match i with
  | .encode api num mfr type => Sys2Proof.Machine.execEncode api num mfr type s
  | .decode id => Sys2Proof.Machine.execDecode id s
  | .key num mfr type => Sys2Proof.Machine.execKey num mfr type s
  | .matchKey id k => Sys2Proof.Machine.execMatch id k s
  | .bind ctrl irq => Sys2Proof.Machine.execBind ctrl irq s
  | .register h num mfr type => Sys2Proof.Machine.execRegister h num mfr type s
  | .unregister h => Sys2Proof.Machine.execUnregister h s
  | .update => Sys2Proof.Machine.execUpdate s
  | .writePacket api num mfr type len data => Sys2Proof.Machine.execWritePacket api num mfr type len data s
  | .writeRtr api num mfr type len => Sys2Proof.Machine.execWriteRtr api num mfr type len s
  | .reserved0 => Sys2Proof.Machine.execReserved0 s
  | .reservedB => Sys2Proof.Machine.execReservedB s
  | .reservedC => Sys2Proof.Machine.execReservedC s
  | .reservedD => Sys2Proof.Machine.execReservedD s
  | .reservedE => Sys2Proof.Machine.execReservedE s
  | .reservedF => Sys2Proof.Machine.execReservedF s

end Sys2Proof.Machine
end

