-- ==== Sys2Proof/Machine/Turns.lean ====
section
/-! DEFINITION. What each agent's turn does (spec/00_scope.md R11, R12), and how the block accepts a command
(spec/70_reset_and_hazards.md R223). -/

namespace Sys2Proof.Machine

/-- The command port accepts the command that has waited longest and the block executes it; where none waits the
block has no step, and nothing happens (R63, R223). Log entry 7. -/
def acceptCommand (s : State) : Host.Outcome State Fault Refusal :=
  match s.port with
  | [] => .next s
  | c :: rest => exec (decode c) { s with port := rest }

/-- The block's turn. While `busy == 1` the command port accepts nothing and the block goes on with its UPDATE
(R27, R223). -/
def blockTurn (s : State) : Host.Outcome State Fault Refusal :=
  if s.busy then .next (updateStep s) else acceptCommand s

/-- One agent's step (R11, R12). -/
def takeTurn (t : Turn) (s : State) : Host.Outcome State Fault Refusal :=
  match t with
  | .block => blockTurn s
  | .issue c => .next (issue c s)
  | .arrive f => .next (arrive f s)
  | .answer b => .next (settleAnswer b s)
  | .reset => .next (resetBlock s)

/-- The state in which the block's next step executes command `c`: the block's turn comes first, no UPDATE holds the
command port, and `c` is the command that has waited longest (R223). Log entry 15. -/
def placeCommand (c : Command) (s : State) : State :=
  { s with busy := false, port := c :: s.port, agenda := .block :: s.agenda }

end Sys2Proof.Machine
end

