-- ==== Sys2Proof/Machine/Step.lean ====
section
/-! DEFINITION. One step of the machine: one step of one agent (spec/00_scope.md R12). -/

namespace Sys2Proof.Machine

/-- The step: the agent whose turn it is takes its step (R12, R65). -/
def step (s : State) : Host.Outcome State Fault Refusal := takeTurn (nextTurn s).1 (nextTurn s).2

/-- The state whose next step runs the command with the bits `w`, numbered as the opcode table numbers them. The
block fetches from no memory (R68): the command is put at the head of the command port. Log entries 15 and 16. -/
def State.withFetchWord (s : State) (nbits w : Nat) : State := placeCommand (commandOfTable nbits w) s

end Sys2Proof.Machine
end

