-- ==== Sys2Proof/Safety.lean ====
section
/-! DEFINITION. The terms in which claims speak of the machine: the invariants of its state, what a step may not take
back, which statuses belong to which command, and the duties that the spec puts on software
(spec/70_reset_and_hazards.md R224, R226), which claims may take as premises and the block does not check. -/

namespace Sys2Proof.Safety

open Sys2Proof Sys2Proof.Machine

/-! ## Invariants -/

/-- What holds of the state in every run: the bounds of R21 and R28; `key[15:6] == 0` (R22); an UPDATE in progress
has a bound transport (R27, R160); an unbound block has no frame buffered and no binding (R36, R170); every frame
accepted for sending has a legal length, and a remote frame has no data (R180, R181). -/
structure StateInv (s : State) : Prop where
  regFits : s.reg.length ≤ Config.regCap
  keysHaveNoApi : ∀ e ∈ s.reg, e.key.extractLsb' 6 10 = 0
  rxqFits : s.rxq.length ≤ Config.rxqDepth
  busyIsBound : s.busy = true → s.bound = true
  unboundIsEmpty : s.bound = false → s.rxq = [] ∧ s.ctrl = 0 ∧ s.irq = 0
  sentIsLegal : ∀ f ∈ s.txlog, f.len ≤ Config.maxLen ∧ (f.rtr = true → f.data = zeroPayload)

/-- What has left the block is not taken back: each history only grows (R58, R30, R31). -/
def HistoriesKept (s t : State) : Prop :=
  s.evlog <+: t.evlog ∧ s.txlog <+: t.txlog ∧ s.results <+: t.results

/-- The whole state of the block, R20's eight elements, is as it was (R204). -/
def BlockUnchanged (s t : State) : Prop :=
  t.reg = s.reg ∧ t.bound = s.bound ∧ t.ctrl = s.ctrl ∧ t.irq = s.irq ∧ t.busy = s.busy ∧ t.rxq = s.rxq
    ∧ t.evlog = s.evlog ∧ t.txlog = s.txlog

/-- The model's own fields besides the results are as they were: the host's waiting commands and the plans of the
other agents. -/
def AgentsUnchanged (s t : State) : Prop :=
  t.port = s.port ∧ t.agenda = s.agenda ∧ t.txPlan = s.txPlan ∧ t.delay = s.delay ∧ t.draws = s.draws

/-! ## Commands -/

/-- The statuses a command can return when it executes (R202). UPDATE's OK is not among them: it comes at its end
step. -/
def statusesOf (i : Instr) : List Status :=
  match i with
  | .encode _ _ _ _ => [.ok]
  | .decode _ => [.ok]
  | .key _ _ _ => [.ok]
  | .matchKey _ _ => [.ok]
  | .bind _ _ => [.ok, .alreadyBound]
  | .register _ _ _ _ => [.ok, .capacityExceeded]
  | .unregister _ => [.ok]
  | .update => [.notBound]
  | .writePacket _ _ _ _ _ _ => [.ok, .notBound, .lengthInvalid, .transportRejected]
  | .writeRtr _ _ _ _ _ => [.ok, .notBound, .lengthInvalid, .transportRejected]
  | .reserved0 => [.illegalOp]
  | .reservedB => [.illegalOp]
  | .reservedC => [.illegalOp]
  | .reservedD => [.illegalOp]
  | .reservedE => [.illegalOp]
  | .reservedF => [.illegalOp]

/-- ENCODE, DECODE, KEY and MATCH, the commands that read and write no state (R58, R110, D35). -/
def isPure (i : Instr) : Bool :=
  match i with
  | .encode _ _ _ _ => true
  | .decode _ => true
  | .key _ _ _ => true
  | .matchKey _ _ => true
  | .bind _ _ => false
  | .register _ _ _ _ => false
  | .unregister _ => false
  | .update => false
  | .writePacket _ _ _ _ _ _ => false
  | .writeRtr _ _ _ _ _ => false
  | .reserved0 => false
  | .reservedB => false
  | .reservedC => false
  | .reservedD => false
  | .reservedE => false
  | .reservedF => false

/-- A command of a reserved opcode (R82). -/
def isReserved (i : Instr) : Bool :=
  i == .reserved0 || i == .reservedB || i == .reservedC || i == .reservedD || i == .reservedE || i == .reservedF

/-- The command the block executes in its next step, where it executes one: it is the block's turn, no UPDATE is in
progress, and a command waits (R223). -/
def accepted (s : State) : Option Instr :=
  if (nextTurn s).1 = .block ∧ s.busy = false then s.port.head?.map decode else none

/-! ## Turns -/

/-- How many of the turns are the block's. -/
def blockTurns (ts : List Turn) : Nat := ts.countP fun t => t == .block

/-- How many of the turns are arrivals, whether or not the transport then has an arrival step. -/
def arrivals (ts : List Turn) : Nat :=
  ts.countP fun t => match t with
    | .arrive _ => true
    | .block => false
    | .issue _ => false
    | .answer _ => false
    | .reset => false

/-- The next step is an arrival that the transport makes: it delivers a frame (R170). -/
def delivers (s : State) : Bool :=
  match (nextTurn s).1 with
  | .arrive _ => arrivalEnabled s
  | .block => false
  | .issue _ => false
  | .answer _ => false
  | .reset => false

/-- The UPDATE in progress in `s` is still in progress after `k` steps (R27, R223): it has been in every state on the
way. -/
def StillUpdating (k : Nat) (s : State) : Prop :=
  ∀ m ≤ k, ∀ u : State, Host.Core.run Sys2Proof.core m s = .next u → u.busy = true

/-- A received frame without its timestamp, which no rule reads (R208). -/
def withoutTs (f : RxFrame) : Ident × Bool × BitVec 4 × Payload := (f.id, f.rtr, f.len, f.data)

/-! ## Duties of software -/

/-- The operands are in the ranges of their identifier fields, so that truncation loses nothing (R106, R226). -/
def OperandsInRange (api : BitVec 16) (num type : BitVec 8) : Prop :=
  api ≤ 1023#16 ∧ num ≤ 63#8 ∧ type ≤ 31#8

/-- No two entries of the registry have the same key: software's duty (R24, R224). -/
def KeysUnique (reg : List Entry) : Prop := (reg.map Entry.key).Nodup

end Sys2Proof.Safety
end

