-- ==== Sys2Proof/Certificates/Slice0/Obligations.lean ====
section
/-! DEFINITION. The statements about the machine, from the numbered rules of the spec. Each docstring says which rule
or section it formalises; a statement that rests on a convention of the model names the log entry. -/

open Sys2Proof Sys2Proof.Machine Sys2Proof.Safety

/-! ## Encoding -/

/-- Decoding an encoded command gives it back, for every command and every operand (R75 to R81, R89). -/
def Obligations.DecodeEncodeRoundTrip : Prop := ∀ i : Instr, decode (encode i) = i

/-- Encoding a decoded command gives its words back exactly where reserved bits and unused fields are zero, which R83
asks of software (R76 to R80, R83, R89). -/
def Obligations.EncodeDecodeIffClean : Prop :=
  ∀ c : Command, WellFormed.command c = true ↔ encode (decode c) = c

/-- R83: reserved bits of CW and DATA, and fields that the command does not use, change no result and no state. -/
def Obligations.ReservedBitsIgnored : Prop :=
  ∀ (c c' : Command) (rest : List Command) (s : State),
    c.cw &&& WellFormed.cwMask (opOf c) = c'.cw &&& WellFormed.cwMask (opOf c) →
    c.data &&& WellFormed.dataMask (opOf c) = c'.data &&& WellFormed.dataMask (opOf c) →
    acceptCommand { s with port := c :: rest } = acceptCommand { s with port := c' :: rest }

/-- The command words of the rules' own examples decode to the commands they stand for, one of each family at least
(R103, R104, R123, R140, R141, R143, R160, R180, R181, R82). -/
def Obligations.SpecWordsDecode : Prop :=
  decode { cw := 0x00001A3020405001 } = .encode 0x1A3 5 4 2 ∧
  decode { cw := 0x0000000010118402 } = .decode 0x01011840 ∧
  decode { cw := 0x0000000020468C54, data := 0x0000000002040005 } = .matchKey 0x020468C5 0x02040005 ∧
  decode { cw := 0x0000000000002015 } = .bind 1 2 ∧
  decode { cw := 0x0000000020405016 } = .register 1 5 4 2 ∧
  decode { cw := 0x0000000000000017 } = .unregister 1 ∧
  decode { cw := 0x0000000000000008 } = .update ∧
  decode { cw := 0x0020010020405009, data := 0x00000000000055AA } =
    .writePacket 0x10 5 4 2 2 { b0 := 0xAA, b1 := 0x55 } ∧
  decode { cw := 0x004001102040500A } = .writeRtr 0x11 5 4 2 4 ∧
  decode { cw := 0x0000000000000000 } = .reserved0

/-- R81: `CW[3:0]` alone selects the command; no opcode falls through to a neighbour's command. -/
def Obligations.OpcodeSelectsCommand : Prop := ∀ c : Command, opcodeOf (decode c) = opOf c

/-- R53: byte k of the payload is `DATA[8k+7:8k]`, in both directions. -/
def Obligations.PayloadPacking : Prop :=
  (∀ d : Word64, dataOfPayload (payloadOfData d) = d) ∧
  ∀ p : Payload,
    (dataOfPayload p).extractLsb' 0 8 = p.b0 ∧ (dataOfPayload p).extractLsb' 8 8 = p.b1 ∧
    (dataOfPayload p).extractLsb' 16 8 = p.b2 ∧ (dataOfPayload p).extractLsb' 24 8 = p.b3 ∧
    (dataOfPayload p).extractLsb' 32 8 = p.b4 ∧ (dataOfPayload p).extractLsb' 40 8 = p.b5 ∧
    (dataOfPayload p).extractLsb' 48 8 = p.b6 ∧ (dataOfPayload p).extractLsb' 56 8 = p.b7

/-! ## The identifier codec -/

/-- R100: `Enc` is the shifted fields joined by `|`; it is the concatenation of the truncated fields, each in its
bits 28:24, 23:16, 15:6 and 5:0; and it is the sum of the shifted fields. -/
def Obligations.EncPacksFields : Prop :=
  ∀ (api : BitVec 16) (num mfr type : BitVec 8),
    enc api num mfr type =
      ((type.extractLsb' 0 5).setWidth 29 <<< 24) ||| ((mfr.extractLsb' 0 8).setWidth 29 <<< 16)
        ||| ((api.extractLsb' 0 10).setWidth 29 <<< 6) ||| (num.extractLsb' 0 6).setWidth 29 ∧
    ((enc api num mfr type).extractLsb' 24 5 = type.extractLsb' 0 5 ∧ (enc api num mfr type).extractLsb' 16 8 = mfr ∧
      (enc api num mfr type).extractLsb' 6 10 = api.extractLsb' 0 10 ∧
      (enc api num mfr type).extractLsb' 0 6 = num.extractLsb' 0 6) ∧
    enc api num mfr type =
      ((type.extractLsb' 0 5).setWidth 29 <<< 24) + ((mfr.extractLsb' 0 8).setWidth 29 <<< 16)
        + ((api.extractLsb' 0 10).setWidth 29 <<< 6) + (num.extractLsb' 0 6).setWidth 29

/-- R70, R71, R72, R101: the four fields of `Dec` partition the identifier, and the index is the low four bits of the
API id. -/
def Obligations.DecPartitionsIdentifier : Prop :=
  ∀ id : Ident,
    ((dec id).dtype.setWidth 29 <<< 24) ||| ((dec id).mfr.setWidth 29 <<< 16) ||| ((dec id).api.setWidth 29 <<< 6)
      ||| (dec id).num.setWidth 29 = id ∧
    (dec id).idx = (dec id).api.extractLsb' 0 4

/-- R106: decoding after encoding recovers every field that is in its range, and the index is `api[3:0]`. -/
def Obligations.DecAfterEncRecovers : Prop :=
  ∀ (api : BitVec 16) (num mfr type : BitVec 8), OperandsInRange api num type →
    (dec (enc api num mfr type)).api.setWidth 16 = api ∧
    (dec (enc api num mfr type)).num.setWidth 8 = num ∧
    (dec (enc api num mfr type)).mfr = mfr ∧
    (dec (enc api num mfr type)).dtype.setWidth 8 = type ∧
    (dec (enc api num mfr type)).idx = api.extractLsb' 0 4

/-- R107: encoding after decoding gives the identifier back, and `Enc` on the valid ranges is a bijection onto the
29-bit values. -/
def Obligations.EncAfterDecRecovers : Prop :=
  (∀ id : Ident,
    enc ((dec id).api.setWidth 16) ((dec id).num.setWidth 8) (dec id).mfr ((dec id).dtype.setWidth 8) = id) ∧
  (∀ id : Ident, ∃ (api : BitVec 16) (num mfr type : BitVec 8),
    OperandsInRange api num type ∧ enc api num mfr type = id ∧
    ∀ (api' : BitVec 16) (num' mfr' type' : BitVec 8), OperandsInRange api' num' type' →
      enc api' num' mfr' type' = id → api' = api ∧ num' = num ∧ mfr' = mfr ∧ type' = type)

/-- R108: operands are truncated modulo the field's range, and decoding gives the truncated values. -/
def Obligations.OperandsTruncate : Prop :=
  ∀ (api : BitVec 16) (num mfr type : BitVec 8),
    enc api num mfr type = enc (api % 1024#16) (num % 64#8) mfr (type % 32#8) ∧
    keyOf num mfr type = keyOf (num % 64#8) mfr (type % 32#8) ∧
    dec (enc api num mfr type) =
      { dtype := type.extractLsb' 0 5, mfr := mfr, api := api.extractLsb' 0 10, idx := api.extractLsb' 0 4
        num := num.extractLsb' 0 6 }

/-- R109 (with R102's second form of the key): a key has no API-id bits, is its own masking, and is the masking of
every identifier of the identity. -/
def Obligations.KeyLaws : Prop :=
  ∀ num mfr type : BitVec 8,
    (keyOf num mfr type).extractLsb' 6 10 = 0 ∧
    keyOf num mfr type &&& matchMask = keyOf num mfr type ∧
    (∀ api : BitVec 16, enc api num mfr type &&& matchMask = keyOf num mfr type) ∧
    ((keyOf num mfr type).extractLsb' 24 5 = type.extractLsb' 0 5 ∧ (keyOf num mfr type).extractLsb' 16 8 = mfr ∧
      (keyOf num mfr type).extractLsb' 0 6 = num.extractLsb' 0 6)

/-! ## The device filter -/

/-- R73, R74, R121: the masks have the rules' values and are each other's complement, with MATCH_MASK clear at bits
15:6 exactly; `Sub` is the masked and shifted identifier, which is `id[15:6]`, the API id of `Dec`. -/
def Obligations.SubIsApiId : Prop :=
  (matchMask = 0x1FFF003F#29 ∧ extractMask = 0x0000FFC0#29 ∧ extractShift = 6) ∧
  extractMask = ~~~ matchMask ∧
  (∀ k : Fin 29, matchMask.getLsbD k = true ↔ k.val < 6 ∨ 16 ≤ k.val) ∧
  ∀ id : Ident, subIndex id = ((id &&& 0x0000FFC0#29) >>> 6).setWidth 10 ∧ subIndex id = id.extractLsb' 6 10 ∧
    subIndex id = (dec id).api

/-- R122: `Mt` does not depend on bits 15:6, and `Sub` depends on nothing else. -/
def Obligations.FilterMasksSeparate : Prop :=
  (∀ id id' k : Ident, (∀ n < 29, n < 6 ∨ 16 ≤ n → id.getLsbD n = id'.getLsbD n) → matchesKey id k = matchesKey id' k) ∧
  (∀ id id' : Ident, (∀ n, 6 ≤ n → n < 16 → id.getLsbD n = id'.getLsbD n) → subIndex id = subIndex id')

/-- R124: a device's key matches every identifier built with its identity, with the API id as the sub-index, and no
identifier of another identity. -/
def Obligations.FilterIsCorrect : Prop :=
  (∀ (api : BitVec 16) (num mfr type : BitVec 8),
    matchesKey (enc api num mfr type) (keyOf num mfr type) = true ∧
    subIndex (enc api num mfr type) = api.extractLsb' 0 10) ∧
  (∀ (api : BitVec 16) (num mfr type num' mfr' type' : BitVec 8),
    (num.extractLsb' 0 6 ≠ num'.extractLsb' 0 6 ∨ mfr ≠ mfr' ∨ type.extractLsb' 0 5 ≠ type'.extractLsb' 0 5) →
    matchesKey (enc api num' mfr' type') (keyOf num mfr type) = false)

/-- R125: a key with an API-id bit set matches no identifier, and no key that the block computes has one. -/
def Obligations.KeyWithApiBitsNeverMatches : Prop :=
  (∀ id k : Ident, k.extractLsb' 6 10 ≠ 0 → matchesKey id k = false) ∧
  (∀ num mfr type : BitVec 8, (keyOf num mfr type).extractLsb' 6 10 = 0)

/-- R126: a key without API-id bits matches exactly 1024 identifiers, one per value of bits 15:6, which `Sub` maps one
to one; two such keys match disjoint sets. -/
def Obligations.KeyMatchesExactly1024 : Prop :=
  ∀ k : Ident, k.extractLsb' 6 10 = 0 →
    { id : Ident | matchesKey id k = true }.ncard = 1024 ∧
    (∀ a : BitVec 10, ∃ id : Ident, (matchesKey id k = true ∧ subIndex id = a) ∧
      ∀ id' : Ident, matchesKey id' k = true → subIndex id' = a → id' = id) ∧
    (∀ k' id : Ident, k'.extractLsb' 6 10 = 0 → k' ≠ k → matchesKey id k = true → matchesKey id k' = false)

/-- R59, R90: the heartbeat decodes to device type 1, manufacturer 1 and device number 0, and matches a key exactly
where the key is 0x01010000. -/
def Obligations.HeartbeatKey : Prop :=
  dec Config.heartbeatId = { dtype := 1, mfr := 1, api := 0x061, idx := 1, num := 0 } ∧
  ∀ k : Ident, matchesKey Config.heartbeatId k = true ↔ k = 0x01010000

/-! ## The commands: what each one does -/

/-- R103: ENCODE, with the fields it ignores, its result, and the rule's corner cases and example. -/
def Obligations.EncodeReturnsIdentifier : Prop :=
  (∀ c : Command, opOf c = 0x1#4 →
    decode c = .encode (c.cw.extractLsb' 36 16) (c.cw.extractLsb' 12 8) (c.cw.extractLsb' 20 8) (c.cw.extractLsb' 28 8)) ∧
  (∀ (api : BitVec 16) (num mfr type : BitVec 8) (s : State),
    exec (.encode api num mfr type) s =
      .next { s with results := s.results ++ [{ status := .ok, id := enc api num mfr type }] }) ∧
  (∀ mfr : BitVec 8, enc 0x7A3 0x45 mfr 0x22 = enc 0x3A3 5 mfr 2) ∧
  enc 0 0 0 0 = 0 ∧ enc 0xFFFF 0xFF 0xFF 0xFF = 0x1FFFFFFF ∧
  decode { cw := 0x00001A3020405001 } = .encode 0x1A3 5 4 2 ∧ enc 0x1A3 5 4 2 = 0x020468C5

/-- R104: DECODE, its result, and the rule's corner cases and example. -/
def Obligations.DecodeReturnsFields : Prop :=
  (∀ c : Command, opOf c = 0x2#4 → decode c = .decode (c.cw.extractLsb' 4 29)) ∧
  (∀ (id : Ident) (s : State),
    exec (.decode id) s =
      .next { s with results := s.results ++
        [{ status := .ok, dtype := id.extractLsb' 24 5, mfr := id.extractLsb' 16 8, api := id.extractLsb' 6 10
           idx := id.extractLsb' 6 4, num := id.extractLsb' 0 6 }] }) ∧
  dec 0 = { dtype := 0, mfr := 0, api := 0, idx := 0, num := 0 } ∧
  dec 0x1FFFFFFF = { dtype := 31, mfr := 255, api := 0x3FF, idx := 15, num := 63 } ∧
  dec 0x00000040 = { dtype := 0, mfr := 0, api := 1, idx := 1, num := 0 } ∧
  decode { cw := 0x0000000010118402 } = .decode 0x01011840 ∧
  dec 0x01011840 = { dtype := 1, mfr := 1, api := 0x061, idx := 1, num := 0 }

/-- R105: KEY, with the fields it ignores, its result, and the rule's corner cases and example. -/
def Obligations.KeyReturnsKey : Prop :=
  (∀ c : Command, opOf c = 0x3#4 → decode c = .key (c.cw.extractLsb' 12 8) (c.cw.extractLsb' 20 8) (c.cw.extractLsb' 28 8)) ∧
  (∀ (num mfr type : BitVec 8) (s : State),
    exec (.key num mfr type) s =
      .next { s with results := s.results ++ [{ status := .ok, id := keyOf num mfr type }] }) ∧
  (∀ num mfr type : BitVec 8, keyOf num mfr type = keyOf (num % 64#8) mfr (type % 32#8) ∧
    (keyOf num mfr type).extractLsb' 6 10 = 0) ∧
  keyOf 0 0 0 = 0 ∧
  decode { cw := 0x0000000020405003 } = .key 5 4 2 ∧ keyOf 5 4 2 = 0x02040005

/-- R123, R120: MATCH, with its key from DATA, its result in both cases, and the rule's corner cases and example. -/
def Obligations.MatchReturnsHit : Prop :=
  (∀ c : Command, opOf c = 0x4#4 → decode c = .matchKey (c.cw.extractLsb' 4 29) (c.data.extractLsb' 0 29)) ∧
  (∀ (id k : Ident) (s : State), id &&& 0x1FFF003F#29 = k →
    exec (.matchKey id k) s =
      .next { s with results := s.results ++ [{ status := .ok, hit := true, sub := subIndex id }] }) ∧
  (∀ (id k : Ident) (s : State), id &&& 0x1FFF003F#29 ≠ k →
    exec (.matchKey id k) s =
      .next { s with results := s.results ++ [{ status := .ok, hit := false, sub := 0 }] }) ∧
  (∀ id k : Ident, k.extractLsb' 6 10 ≠ 0 → id &&& 0x1FFF003F#29 ≠ k) ∧
  (matchesKey 0 0 = true ∧ subIndex 0 = 0) ∧
  (∀ (k : Ident) (a : BitVec 10), k.extractLsb' 6 10 = 0 → matchesKey (k ||| (a.setWidth 29 <<< 6)) k = true) ∧
  decode { cw := 0x0000000020468C54, data := 0x0000000002040005 } = .matchKey 0x020468C5 0x02040005 ∧
  matchesKey 0x020468C5 0x02040005 = true ∧ subIndex 0x020468C5 = 0x1A3

/-- R140: BIND writes the binding once, and after that answers ALREADY_BOUND and writes nothing. -/
def Obligations.BindBindsOnce : Prop :=
  (∀ c : Command, opOf c = 0x5#4 → decode c = .bind (c.cw.extractLsb' 4 8) (c.cw.extractLsb' 12 8)) ∧
  (∀ (ctrl irq : BitVec 8) (s : State), s.bound = false →
    exec (.bind ctrl irq) s =
      .next { s with bound := true, ctrl := ctrl, irq := irq, results := s.results ++ [{ status := .ok }] }) ∧
  (∀ (ctrl irq : BitVec 8) (s : State), s.bound = true →
    exec (.bind ctrl irq) s = .next { s with results := s.results ++ [{ status := .alreadyBound }] })

/-- R141, R142: REGISTER appends one entry; with 16 entries it answers CAPACITY_EXCEEDED and writes nothing. -/
def Obligations.RegisterAppendsUpToCapacity : Prop :=
  (∀ c : Command, opOf c = 0x6#4 →
    decode c = .register (c.cw.extractLsb' 4 8) (c.cw.extractLsb' 12 8) (c.cw.extractLsb' 20 8) (c.cw.extractLsb' 28 8)) ∧
  (∀ (h num mfr type : BitVec 8) (s : State), s.reg.length ≠ 16 →
    exec (.register h num mfr type) s =
      .next { s with reg := s.reg ++ [{ handle := h, key := keyOf num mfr type }]
                     results := s.results ++ [{ status := .ok }] }) ∧
  (∀ (h num mfr type : BitVec 8) (s : State), s.reg.length = 16 →
    exec (.register h num mfr type) s = .next { s with results := s.results ++ [{ status := .capacityExceeded }] })

/-- R143: UNREGISTER removes every entry of the handle and answers OK, also where there is none. -/
def Obligations.UnregisterRemovesHandle : Prop :=
  (∀ c : Command, opOf c = 0x7#4 → decode c = .unregister (c.cw.extractLsb' 4 8)) ∧
  (∀ (h : BitVec 8) (s : State),
    exec (.unregister h) s =
      .next { s with reg := s.reg.filter fun e => e.handle != h, results := s.results ++ [{ status := .ok }] })

/-- R160: UPDATE's start step sets `busy` and returns nothing yet; unbound, it answers NOT_BOUND and writes
nothing. -/
def Obligations.UpdateStarts : Prop :=
  (∀ c : Command, opOf c = 0x8#4 → decode c = .update) ∧
  (∀ s : State, s.bound = true → exec .update s = .next { s with busy := true }) ∧
  (∀ s : State, s.bound = false → exec .update s = .next { s with results := s.results ++ [{ status := .notBound }] })

/-- R180, R203: WRITE_PACKET offers the data frame and returns the transport's answer; unbound it answers NOT_BOUND
whatever the length, and with a length above 8 LENGTH_INVALID, and then offers and writes nothing. -/
def Obligations.WritePacketOffersFrame : Prop :=
  (∀ c : Command, opOf c = 0x9#4 →
    decode c =
      .writePacket (c.cw.extractLsb' 36 16) (c.cw.extractLsb' 12 8) (c.cw.extractLsb' 20 8) (c.cw.extractLsb' 28 8)
        (c.cw.extractLsb' 52 4)
        { b0 := c.data.extractLsb' 0 8, b1 := c.data.extractLsb' 8 8, b2 := c.data.extractLsb' 16 8
          b3 := c.data.extractLsb' 24 8, b4 := c.data.extractLsb' 32 8, b5 := c.data.extractLsb' 40 8
          b6 := c.data.extractLsb' 48 8, b7 := c.data.extractLsb' 56 8 }) ∧
  ∀ (num mfr type : BitVec 8) (api : BitVec 16) (len : BitVec 4) (data : Payload) (s : State),
    (s.bound = true → len ≤ 8#4 → txAnswer s = true →
      exec (.writePacket api num mfr type len data) s =
        .next { txAnswered s with
          txlog := s.txlog ++ [{ id := enc api num mfr type, rtr := false, len := len, data := data }]
          results := s.results ++ [{ status := .ok }] }) ∧
    (s.bound = true → len ≤ 8#4 → txAnswer s = false →
      exec (.writePacket api num mfr type len data) s =
        .next { txAnswered s with results := s.results ++ [{ status := .transportRejected }] }) ∧
    (s.bound = true → 8#4 < len →
      exec (.writePacket api num mfr type len data) s =
        .next { s with results := s.results ++ [{ status := .lengthInvalid }] }) ∧
    (s.bound = false →
      exec (.writePacket api num mfr type len data) s =
        .next { s with results := s.results ++ [{ status := .notBound }] })

/-- R181, R184, R203: WRITE_RTR offers the remote frame, eight zero bytes and the length as given, and fails as
WRITE_PACKET does. -/
def Obligations.WriteRtrOffersFrame : Prop :=
  (∀ c : Command, opOf c = 0xA#4 →
    decode c =
      .writeRtr (c.cw.extractLsb' 36 16) (c.cw.extractLsb' 12 8) (c.cw.extractLsb' 20 8) (c.cw.extractLsb' 28 8)
        (c.cw.extractLsb' 52 4)) ∧
  ∀ (num mfr type : BitVec 8) (api : BitVec 16) (len : BitVec 4) (s : State),
    (s.bound = true → len ≤ 8#4 → txAnswer s = true →
      exec (.writeRtr api num mfr type len) s =
        .next { txAnswered s with
          txlog := s.txlog ++ [{ id := enc api num mfr type, rtr := true, len := len
                                 data := { b0 := 0, b1 := 0, b2 := 0, b3 := 0, b4 := 0, b5 := 0, b6 := 0, b7 := 0 } }]
          results := s.results ++ [{ status := .ok }] }) ∧
    (s.bound = true → len ≤ 8#4 → txAnswer s = false →
      exec (.writeRtr api num mfr type len) s =
        .next { txAnswered s with results := s.results ++ [{ status := .transportRejected }] }) ∧
    (s.bound = true → 8#4 < len →
      exec (.writeRtr api num mfr type len) s =
        .next { s with results := s.results ++ [{ status := .lengthInvalid }] }) ∧
    (s.bound = false →
      exec (.writeRtr api num mfr type len) s =
        .next { s with results := s.results ++ [{ status := .notBound }] })

/-- R82: each reserved opcode, whatever the other bits are, answers ILLEGAL_OP and changes no state. -/
def Obligations.ReservedOpcodesAreIllegal : Prop :=
  (∀ c : Command,
    (opOf c = 0x0#4 → decode c = .reserved0) ∧ (opOf c = 0xB#4 → decode c = .reservedB) ∧
    (opOf c = 0xC#4 → decode c = .reservedC) ∧ (opOf c = 0xD#4 → decode c = .reservedD) ∧
    (opOf c = 0xE#4 → decode c = .reservedE) ∧ (opOf c = 0xF#4 → decode c = .reservedF)) ∧
  ∀ s : State,
    exec .reserved0 s = .next { s with results := s.results ++ [{ status := .illegalOp }] } ∧
    exec .reservedB s = .next { s with results := s.results ++ [{ status := .illegalOp }] } ∧
    exec .reservedC s = .next { s with results := s.results ++ [{ status := .illegalOp }] } ∧
    exec .reservedD s = .next { s with results := s.results ++ [{ status := .illegalOp }] } ∧
    exec .reservedE s = .next { s with results := s.results ++ [{ status := .illegalOp }] } ∧
    exec .reservedF s = .next { s with results := s.results ++ [{ status := .illegalOp }] }

/-- R182, and the model's choice of log entry 4: the answer to an offer is the one the transport has settled, or a
free value; where it is 1 the frame is appended, where it is 0 nothing is written. Either way the next offer has an
answer of its own. It holds for every value of the free answer. -/
def Obligations.OfferFollowsAnswer : Prop :=
  (∀ (f : TxFrame) (s : State) (bs : List Bool), s.txPlan = true :: bs →
    txOffer f s = (true, { s with txPlan := bs, txlog := s.txlog ++ [f] })) ∧
  (∀ (f : TxFrame) (s : State) (bs : List Bool), s.txPlan = false :: bs →
    txOffer f s = (false, { s with txPlan := bs })) ∧
  (∀ (f : TxFrame) (s : State), s.txPlan = [] →
    txOffer f s =
      if Config.freeAnswer s.draws then (true, { s with draws := s.draws + 1, txlog := s.txlog ++ [f] })
      else (false, { s with draws := s.draws + 1 }))

/-! ## Frames: what a command leaves unchanged -/

/-- R58, R82, R103 to R105, R123: ENCODE, DECODE, KEY, MATCH and the reserved opcodes write none of the block's
state; they only return a result. -/
def Obligations.FrameOfStatelessCommands : Prop :=
  ∀ (i : Instr) (s t : State), isPure i = true ∨ isReserved i = true → exec i s = .next t →
    BlockUnchanged s t ∧ AgentsUnchanged s t

/-- R140, R141, R143, R160: BIND writes only the binding, REGISTER and UNREGISTER only the registry, UPDATE's start
step only `busy` (and each its result). -/
def Obligations.FrameOfStatefulCommands : Prop :=
  (∀ (ctrl irq : BitVec 8) (s t : State), exec (.bind ctrl irq) s = .next t →
    t.reg = s.reg ∧ t.busy = s.busy ∧ t.rxq = s.rxq ∧ t.evlog = s.evlog ∧ t.txlog = s.txlog ∧ AgentsUnchanged s t) ∧
  (∀ (i : Instr) (h num mfr type : BitVec 8) (s t : State), i = .register h num mfr type ∨ i = .unregister h →
    exec i s = .next t →
    t.bound = s.bound ∧ t.ctrl = s.ctrl ∧ t.irq = s.irq ∧ t.busy = s.busy ∧ t.rxq = s.rxq ∧ t.evlog = s.evlog ∧
      t.txlog = s.txlog ∧ AgentsUnchanged s t) ∧
  (∀ s t : State, exec .update s = .next t →
    t.reg = s.reg ∧ t.bound = s.bound ∧ t.ctrl = s.ctrl ∧ t.irq = s.irq ∧ t.rxq = s.rxq ∧ t.evlog = s.evlog ∧
      t.txlog = s.txlog ∧ AgentsUnchanged s t)

/-- R180, R181, R182: WRITE_PACKET and WRITE_RTR write only `txlog`, and append to it the frame they form or nothing
(and they use up one answer of the transport, and return a result). -/
def Obligations.FrameOfTransmitCommands : Prop :=
  ∀ (api : BitVec 16) (num mfr type : BitVec 8) (len : BitVec 4) (data : Payload) (i : Instr) (f : TxFrame)
      (s t : State),
    (i = .writePacket api num mfr type len data ∧ f = { id := enc api num mfr type, rtr := false, len, data }) ∨
    (i = .writeRtr api num mfr type len ∧ f = { id := enc api num mfr type, rtr := true, len, data := zeroPayload }) →
    exec i s = .next t →
    t.reg = s.reg ∧ t.bound = s.bound ∧ t.ctrl = s.ctrl ∧ t.irq = s.irq ∧ t.busy = s.busy ∧ t.rxq = s.rxq ∧
      t.evlog = s.evlog ∧ t.port = s.port ∧ t.agenda = s.agenda ∧ t.delay = s.delay ∧
      (t.txlog = s.txlog ∨ t.txlog = s.txlog ++ [f])

/-! ## The step -/

/-- R63, R223: in the block's turn, with no UPDATE in progress, the step executes the decoding of the command that has
waited longest, and takes it from the command port. The turn stands in `agenda`, the model's own (log entry 3). -/
def Obligations.StepRunsDecodedCommand : Prop :=
  ∀ (s : State) (c : Command) (cs : List Command) (ts : List Turn),
    s.agenda = .block :: ts → s.busy = false → s.port = c :: cs →
    step s = exec (decode c) { s with agenda := ts, port := cs }

/-- R11, R12, R65, R223, with log entries 1, 3, 4, 7 and 12: a command the host issues joins the end of the queue at
the command port, also while `busy`; an answer the transport settles joins the end of the settled answers (R88's `@tx`);
the block's turn with nothing to do changes nothing; and where the agenda names no turn, the turn is a free value, for
every value of it, but for the block's own where an UPDATE is in progress and its delay is used up. -/
def Obligations.StepTakesTurn : Prop :=
  (∀ (s : State) (c : Command) (ts : List Turn), s.agenda = .issue c :: ts →
    step s = .next { s with agenda := ts, port := s.port ++ [c] }) ∧
  (∀ (s : State) (b : Bool) (ts : List Turn), s.agenda = .answer b :: ts →
    step s = .next { s with agenda := ts, txPlan := s.txPlan ++ [b] }) ∧
  (∀ (s : State) (ts : List Turn), s.agenda = .block :: ts → s.busy = false → s.port = [] →
    step s = .next { s with agenda := ts }) ∧
  (∀ s : State, s.agenda = [] → s.busy = false →
    step s = takeTurn (Config.freeTurn s.draws)
      { s with delay := Config.freeDelay s.draws, draws := s.draws + 1 }) ∧
  (∀ (s : State) (d : Nat), s.agenda = [] → s.busy = true → s.delay = d + 1 →
    step s = takeTurn (Config.freeTurn s.draws) { s with delay := d, draws := s.draws + 1 }) ∧
  (∀ s : State, s.agenda = [] → s.busy = true → s.delay = 0 →
    step s = takeTurn .block { s with delay := Config.freeDelay s.draws, draws := s.draws + 1 })

/-- R161, R163, R164: the dispatch step takes the head frame and hands the consumer one event, the match event of the
first entry that matches or the unknown event. -/
def Obligations.DispatchStepHandsOneEvent : Prop :=
  ∀ (s : State) (f : RxFrame) (fs : List RxFrame) (ts : List Turn),
    s.agenda = .block :: ts → s.busy = true → s.rxq = f :: fs →
    (∀ e : Entry, firstMatch s.reg f.id = some e →
      step s = .next { s with agenda := ts, rxq := fs
                              evlog := s.evlog ++ [.matched e.handle (subIndex f.id) f.rtr f.len f.data] }) ∧
    (firstMatch s.reg f.id = none →
      step s = .next { s with agenda := ts, rxq := fs
                              evlog := s.evlog ++ [.unknown f.id f.len f.data] })

/-- R165: the end step clears `busy` and returns OK. R169, R232: it is weakly fair. From every state in which it is
enabled, and whatever the other agents' turns are, a run of finitely many steps leads to one in which it is no longer
enabled, or in which it is the next step; so it cannot stay enabled and never be taken. How many other turns can come
first is the model's own: those the agenda fixes and as many free ones as `delay` says (log entries 3 and 12). -/
def Obligations.EndStepReturnsOk : Prop :=
  (∀ (s : State) (ts : List Turn), s.agenda = .block :: ts → s.busy = true → s.rxq = [] →
    step s = .next { s with agenda := ts, busy := false, results := s.results ++ [{ status := .ok }] }) ∧
  (∀ s : State, s.busy = true → s.rxq = [] →
    ∃ (k : Nat) (t : State), k ≤ s.agenda.length + s.delay ∧ Host.Core.run Sys2Proof.core k s = .next t ∧
      (¬ (t.busy = true ∧ t.rxq = []) ∨ step t = .next (endStep (nextTurn t).2)))

/-- R170: an arrival appends the frame where the transport is bound and `rxq` has room, and changes nothing
otherwise (the latter is how log entry 8 shows a frame that never arrives). -/
def Obligations.ArrivalAppendsFrame : Prop :=
  ∀ (s : State) (f : RxFrame) (ts : List Turn), s.agenda = .arrive f :: ts →
    (s.bound = true → s.rxq.length < Config.rxqDepth →
      step s = .next { s with agenda := ts, rxq := s.rxq ++ [f] }) ∧
    (s.bound = false ∨ Config.rxqDepth ≤ s.rxq.length → step s = .next { s with agenda := ts })

/-- R36, R220: the power-on state; and a reset gives every element its reset value, leaves the histories as they were,
and returns no result. -/
def Obligations.ResetValues : Prop :=
  (State.reset.reg = [] ∧ State.reset.bound = false ∧ State.reset.ctrl = 0 ∧ State.reset.irq = 0 ∧
    State.reset.busy = false ∧ State.reset.rxq = [] ∧ State.reset.evlog = [] ∧ State.reset.txlog = []) ∧
  ∀ (s : State) (ts : List Turn), s.agenda = .reset :: ts → ∃ t : State, step s = .next t ∧
    t.reg = [] ∧ t.bound = false ∧ t.ctrl = 0 ∧ t.irq = 0 ∧ t.busy = false ∧ t.rxq = [] ∧
    t.evlog = s.evlog ∧ t.txlog = s.txlog ∧ t.results = s.results

/-! ## Routing -/

/-- R162: `FirstMatch` is the entry at the least position whose key matches, and none where no key matches. -/
def Obligations.FirstMatchIsLeastPosition : Prop :=
  ∀ (reg : List Entry) (id : Ident),
    (∀ e : Entry, firstMatch reg id = some e ↔
      ∃ i : Nat, reg[i]? = some e ∧ matchesKey id e.key = true ∧
        ∀ j < i, ∀ e' : Entry, reg[j]? = some e' → matchesKey id e'.key = false) ∧
    (firstMatch reg id = none ↔ ∀ e ∈ reg, matchesKey id e.key = false)

/-- R144, R146, R162, R224: of the entries of one key, the first registered receives every frame that the key matches;
and an entry registered later with a key that is there already never changes which entry a frame goes to, so it receives
none. -/
def Obligations.FirstRegisteredWins : Prop :=
  ∀ (pre mid post : List Entry) (e e' : Entry) (id : Ident), e'.key = e.key → matchesKey id e.key = true →
    ((∀ p ∈ pre, p.key ≠ e.key) → firstMatch (pre ++ e :: mid ++ e' :: post) id = some e) ∧
    ∃ w ∈ pre ++ [e], firstMatch (pre ++ e :: mid ++ e' :: post) id = some w ∧
      firstMatch (pre ++ e :: mid ++ post) id = some w

/-- R24, R144, C5: with unique keys the order of the registry has no visible effect. -/
def Obligations.OrderIrrelevantWithUniqueKeys : Prop :=
  ∀ (reg reg' : List Entry) (id : Ident), KeysUnique reg → reg.Perm reg' →
    firstMatch reg id = firstMatch reg' id

/-- R143, R144: UNREGISTER keeps the order of the rest, and the removed handle receives nothing afterwards. -/
def Obligations.UnregisterKeepsOrder : Prop :=
  ∀ (h : BitVec 8) (s t : State), exec (.unregister h) s = .next t →
    t.reg.Sublist s.reg ∧ (∀ e : Entry, e ∈ t.reg ↔ e ∈ s.reg ∧ e.handle ≠ h) ∧
    (∀ (id : Ident) (e : Entry), firstMatch t.reg id = some e → e.handle ≠ h)

/-- R163, R164, R167, R168: only the identifier routes a frame; the length is not checked, and length, `rtr` and
payload are passed on as they came (`rtr` in the match event only). -/
def Obligations.OnlyIdentifierRoutes : Prop :=
  ∀ (reg : List Entry) (f f' : RxFrame), f'.id = f.id →
    (∃ e ∈ reg, eventOf reg f = .matched e.handle (subIndex f.id) f.rtr f.len f.data ∧
      eventOf reg f' = .matched e.handle (subIndex f.id) f'.rtr f'.len f'.data) ∨
    (eventOf reg f = .unknown f.id f.len f.data ∧ eventOf reg f' = .unknown f.id f'.len f'.data)

/-- R208: no rule reads a timestamp. Two states that differ in the timestamps of buffered frames alone take steps to
states that differ in those alone. -/
def Obligations.TimestampsAreNotRead : Prop :=
  ∀ (s : State) (q : List RxFrame), q.map withoutTs = s.rxq.map withoutTs →
    ∃ (t : State) (q' : List RxFrame), step s = .next t ∧ step { s with rxq := q } = .next { t with rxq := q' } ∧
      q'.map withoutTs = t.rxq.map withoutTs

/-! ## Whole-machine rules -/

/-- R200: no command and no step stops the machine; each answers a next state. -/
def Obligations.NothingStopsTheMachine : Prop :=
  (∀ (i : Instr) (s : State), ∃ t : State, exec i s = .next t) ∧ ∀ s : State, ∃ t : State, step s = .next t

/-- R202: every command returns one result, with a status of its row of R202's table; only UPDATE returns none at its
start step, where `bound == 1`, and OK at its end step. The statuses have the codes of R85. -/
def Obligations.StatusesOfCommands : Prop :=
  (∀ (i : Instr) (s t : State), exec i s = .next t →
    (∃ r : Result, t.results = s.results ++ [r] ∧ r.status ∈ statusesOf i) ∨
    (i = .update ∧ s.bound = true ∧ t.busy = true ∧ t.results = s.results)) ∧
  (∀ s : State, s.rxq = [] → (updateStep s).results = s.results ++ [{ status := .ok }]) ∧
  statusCode .ok = 0x0#4 ∧ statusCode .capacityExceeded = 0x1#4 ∧ statusCode .notBound = 0x2#4 ∧
  statusCode .transportRejected = 0x3#4 ∧ statusCode .lengthInvalid = 0x4#4 ∧ statusCode .illegalOp = 0x5#4 ∧
  statusCode .alreadyBound = 0x6#4

/-- R204: a command that returns a status other than OK writes none of the block's state. -/
def Obligations.FailureWritesNothing : Prop :=
  ∀ (i : Instr) (s t : State) (r : Result), exec i s = .next t → t.results = s.results ++ [r] → r.status ≠ .ok →
    BlockUnchanged s t

/-- R110: ENCODE, DECODE, KEY and MATCH are total, pure and deterministic: one result for the operands, in every
state. -/
def Obligations.PureCommandsReadNoState : Prop :=
  ∀ i : Instr, isPure i = true → ∃ r : Result, r.status = .ok ∧ ∀ s : State, exec i s = .next (result r s)

/-- R145, R183: REGISTER and UNREGISTER do not read `bound`; WRITE_PACKET and WRITE_RTR do not read `reg`, and loop no
frame back into `rxq`. -/
def Obligations.RegistryAndTransmitAreIndependent : Prop :=
  (∀ (h num mfr type : BitVec 8) (i : Instr) (s : State) (b : Bool),
    i = .register h num mfr type ∨ i = .unregister h →
    ∃ t : State, exec i s = .next t ∧ exec i { s with bound := b } = .next { t with bound := b }) ∧
  (∀ (api : BitVec 16) (num mfr type : BitVec 8) (len : BitVec 4) (data : Payload) (i : Instr) (s : State)
      (reg : List Entry),
    i = .writePacket api num mfr type len data ∨ i = .writeRtr api num mfr type len →
    ∃ t : State, exec i s = .next t ∧ exec i { s with reg := reg } = .next { t with reg := reg } ∧ t.rxq = s.rxq)

/-- R61, R166: one event per frame. A step leaves `evlog` as it is and takes no frame from `rxq` (a reset discards
them all), or it is a dispatch step, which takes the head frame and appends that frame's event. -/
def Obligations.OneEventPerFrame : Prop :=
  ∀ s t : State, step s = .next t →
    (t.evlog = s.evlog ∧
      (t.rxq = s.rxq ∨ (∃ f : RxFrame, (nextTurn s).1 = .arrive f ∧ t.rxq = s.rxq ++ [f]) ∨
        ((nextTurn s).1 = .reset ∧ t.rxq = []))) ∨
    ((nextTurn s).1 = .block ∧ s.busy = true ∧
      ∃ (f : RxFrame) (fs : List RxFrame), s.rxq = f :: fs ∧ t.rxq = fs ∧ t.evlog = s.evlog ++ [eventOf s.reg f])

/-- R31, R64, R182: only a WRITE_PACKET or WRITE_RTR that the block executes while bound, with a legal length, and that
the transport answers with 1, adds to `txlog`, and it adds one frame. The answer is a settled one or a free value
(log entry 4). -/
def Obligations.OnlyTransmitWritesTxlog : Prop :=
  ∀ s t : State, step s = .next t →
    t.txlog = s.txlog ∨
    ∃ f : TxFrame, t.txlog = s.txlog ++ [f] ∧ s.bound = true ∧ f.len ≤ 8#4 ∧ txAnswer (nextTurn s).2 = true ∧
      ∃ (api : BitVec 16) (num mfr type : BitVec 8), f.id = enc api num mfr type ∧
        ((∃ data : Payload, f.rtr = false ∧ f.data = data ∧
            accepted s = some (.writePacket api num mfr type f.len data)) ∨
         (f.rtr = true ∧ f.data = zeroPayload ∧ accepted s = some (.writeRtr api num mfr type f.len)))

/-- R23: only REGISTER and UNREGISTER write the registry (and reset, R36). -/
def Obligations.OnlyRegistryCommandsWriteReg : Prop :=
  ∀ s t : State, step s = .next t →
    t.reg = s.reg ∨ ((nextTurn s).1 = .reset ∧ t.reg = []) ∨
    (∃ h num mfr type : BitVec 8, accepted s = some (.register h num mfr type) ∧
      t.reg = s.reg ++ [{ handle := h, key := keyOf num mfr type }]) ∨
    (∃ h : BitVec 8, accepted s = some (.unregister h) ∧ t.reg = s.reg.filter fun e => e.handle != h)

/-- R25: nothing but reset clears or changes a binding, and only BIND makes one. -/
def Obligations.BindingIsMadeOnce : Prop :=
  ∀ s t : State, step s = .next t →
    (s.bound = true → (nextTurn s).1 ≠ .reset → t.bound = true ∧ t.ctrl = s.ctrl ∧ t.irq = s.irq) ∧
    (s.bound = false → t.bound = true → accepted s = some (.bind t.ctrl t.irq))

/-- R68, R147, R223, R230: while an UPDATE is in progress no command executes: nothing is
sent, and no step but a reset changes the registry or the binding or takes a waiting command from its place. -/
def Obligations.CommandsWaitWhileBusy : Prop :=
  ∀ s t : State, s.busy = true → step s = .next t →
    accepted s = none ∧ t.txlog = s.txlog ∧
    ((nextTurn s).1 ≠ .reset →
      s.port <+: t.port ∧ t.reg = s.reg ∧ t.bound = s.bound ∧ t.ctrl = s.ctrl ∧ t.irq = s.irq)

/-- R30, R31, R58: no step takes back an event, a frame accepted for sending or a result: each history only grows,
across a reset too. -/
def Obligations.HistoriesOnlyGrow : Prop := ∀ s t : State, step s = .next t → HistoriesKept s t

/-- The power-on state meets the invariants (R21, R22, R27, R28, R36). -/
def Obligations.PowerOnMeetsInvariants : Prop := StateInv State.reset

/-- Every step keeps the invariants, from every state that meets them, whatever the agents choose: the registry and
`rxq` keep their bounds, keys have no API-id bits, an UPDATE in progress has a binding, an unbound block has no
frame and no binding, and what was sent is legal (R21, R22, R27, R28, R36, R141, R160, R170, R180, R181). -/
def Obligations.StepKeepsInvariants : Prop := ∀ s t : State, StateInv s → step s = .next t → StateInv t

/-! ## A whole UPDATE -/

/-- R61, R161, R165, R166, R169: an UPDATE in progress into which no other agent steps dispatches every buffered frame
in order, one event each, with the registry it started with, and then ends with OK. That a dispatch step completes rests
on the consumer's callback returning (D32, log entry 13). -/
def Obligations.UpdateDrainsInOrder : Prop :=
  ∀ (s : State) (ts : List Turn), s.busy = true →
    s.agenda = List.replicate (s.rxq.length + 1) .block ++ ts →
    Host.Core.run Sys2Proof.core (s.rxq.length + 1) s =
      .next { s with agenda := ts, busy := false, rxq := [], evlog := s.evlog ++ s.rxq.map (eventOf s.reg)
                     results := s.results ++ [{ status := .ok }] }

/-- R65, R169, R228, R230: an UPDATE ends whenever finitely many frames arrive while it runs. First, with the turns that
the agenda fixes: whatever the host and the transport do meanwhile, it ends as soon as the block has had more turns than
there are frames to dispatch (those buffered and those that arrive), with an empty queue, the registry it started with,
and one result, OK. Second, whatever the turns are and however many: while the UPDATE runs, a reset comes or the end step
is taken, or the transport delivers a frame at some step from `n` on, for every `n`; so where it delivers finitely many,
the UPDATE ends or is abandoned. Both rest on the consumer's callbacks returning (D32, log entry 13), and the second on
the fairness of the UPDATE's steps, which the model has from R169 (log entry 12). -/
def Obligations.UpdateEndsWhenArrivalsDo : Prop :=
  (∀ (s : State) (ts rest : List Turn), s.busy = true → s.agenda = ts ++ rest → Turn.reset ∉ ts →
    s.rxq.length + arrivals ts < blockTurns ts →
    ∃ (k : Nat) (t : State), k ≤ ts.length ∧ Host.Core.run Sys2Proof.core k s = .next t ∧
      t.busy = false ∧ t.rxq = [] ∧ t.reg = s.reg ∧ t.results = s.results ++ [{ status := .ok }]) ∧
  (∀ (s : State) (n : Nat), s.busy = true →
    ∃ (k : Nat) (t : State), Host.Core.run Sys2Proof.core k s = .next t ∧ StillUpdating k s ∧
      ((nextTurn t).1 = .reset ∨ (t.rxq = [] ∧ step t = .next (endStep (nextTurn t).2)) ∨
        (n ≤ k ∧ delivers t = true)))
end

