-- ==== Sys2Proof/Laws/Decode.lean ====
section
/-! SUPPORT. The fields of an encoded command word, one lemma per field of each format (spec/30_encoding.md R76 to
R80, R89). -/

namespace Sys2Proof

/-! ## The opcode -/

/-- A Format I word has its opcode in its low four bits. -/
theorem low_formatI (op : BitVec 4) (h num mfr type : BitVec 8) (api : BitVec 16) (len : BitVec 4) :
    (formatI op h num mfr type api len).extractLsb' 0 4 = op := by
  ext k hk; interval_cases k <;> simp [formatI]

/-- A Format D word has its opcode in its low four bits. -/
theorem low_formatD (op : BitVec 4) (id : Ident) : (formatD op id).extractLsb' 0 4 = op := by
  ext k hk; interval_cases k <;> simp [formatD]

/-- A Format H word has its opcode in its low four bits. -/
theorem low_formatH (op : BitVec 4) (h : BitVec 8) : (formatH op h).extractLsb' 0 4 = op := by
  ext k hk; interval_cases k <;> simp [formatH]

/-- A Format B word has its opcode in its low four bits. -/
theorem low_formatB (op : BitVec 4) (c i : BitVec 8) : (formatB op c i).extractLsb' 0 4 = op := by
  ext k hk; interval_cases k <;> simp [formatB]

/-- A Format N word has its opcode in its low four bits. -/
theorem low_formatN (op : BitVec 4) : (formatN op).extractLsb' 0 4 = op := by
  ext k hk; interval_cases k <;> simp [formatN]

/-! ## Operands -/

theorem formatI_h (op : BitVec 4) (h num mfr type : BitVec 8) (api : BitVec 16) (len : BitVec 4) :
    (formatI op h num mfr type api len).extractLsb' 4 8 = h := by
  ext k hk; interval_cases k <;> simp [formatI]

theorem formatI_num (op : BitVec 4) (h num mfr type : BitVec 8) (api : BitVec 16) (len : BitVec 4) :
    (formatI op h num mfr type api len).extractLsb' 12 8 = num := by
  ext k hk; interval_cases k <;> simp [formatI]

theorem formatI_mfr (op : BitVec 4) (h num mfr type : BitVec 8) (api : BitVec 16) (len : BitVec 4) :
    (formatI op h num mfr type api len).extractLsb' 20 8 = mfr := by
  ext k hk; interval_cases k <;> simp [formatI]

theorem formatI_type (op : BitVec 4) (h num mfr type : BitVec 8) (api : BitVec 16) (len : BitVec 4) :
    (formatI op h num mfr type api len).extractLsb' 28 8 = type := by
  ext k hk; interval_cases k <;> simp [formatI]

theorem formatI_api (op : BitVec 4) (h num mfr type : BitVec 8) (api : BitVec 16) (len : BitVec 4) :
    (formatI op h num mfr type api len).extractLsb' 36 16 = api := by
  ext k hk; interval_cases k <;> simp [formatI]

theorem formatI_len (op : BitVec 4) (h num mfr type : BitVec 8) (api : BitVec 16) (len : BitVec 4) :
    (formatI op h num mfr type api len).extractLsb' 52 4 = len := by
  ext k hk; interval_cases k <;> simp [formatI]

theorem formatD_id (op : BitVec 4) (id : Ident) : (formatD op id).extractLsb' 4 29 = id := by
  ext k hk; interval_cases k <;> simp [formatD]

theorem formatH_h (op : BitVec 4) (h : BitVec 8) : (formatH op h).extractLsb' 4 8 = h := by
  ext k hk; interval_cases k <;> simp [formatH]

theorem formatB_ctrl (op : BitVec 4) (c i : BitVec 8) : (formatB op c i).extractLsb' 4 8 = c := by
  ext k hk; interval_cases k <;> simp [formatB]

theorem formatB_irq (op : BitVec 4) (c i : BitVec 8) : (formatB op c i).extractLsb' 12 8 = i := by
  ext k hk; interval_cases k <;> simp [formatB]

/-- The sixteen opcodes (R81). -/
theorem opcode_cases (op : BitVec 4) :
    op = 0x0 ∨ op = 0x1 ∨ op = 0x2 ∨ op = 0x3 ∨ op = 0x4 ∨ op = 0x5 ∨ op = 0x6 ∨ op = 0x7 ∨
    op = 0x8 ∨ op = 0x9 ∨ op = 0xA ∨ op = 0xB ∨ op = 0xC ∨ op = 0xD ∨ op = 0xE ∨ op = 0xF := by
  revert op; decide

end Sys2Proof
end

