-- ==== Sys2Proof/Laws/State.lean ====
section
/-! SUPPORT. What each named operation leaves in each field of the state: one lemma per field per operation, so that
no later proof unfolds an operation to read a field. -/

namespace Sys2Proof.Machine

/-! ## result -/

@[simp] theorem result_reg (r : Result) (s : State) : (result r s).reg = s.reg := rfl
@[simp] theorem result_bound (r : Result) (s : State) : (result r s).bound = s.bound := rfl
@[simp] theorem result_ctrl (r : Result) (s : State) : (result r s).ctrl = s.ctrl := rfl
@[simp] theorem result_irq (r : Result) (s : State) : (result r s).irq = s.irq := rfl
@[simp] theorem result_busy (r : Result) (s : State) : (result r s).busy = s.busy := rfl
@[simp] theorem result_rxq (r : Result) (s : State) : (result r s).rxq = s.rxq := rfl
@[simp] theorem result_evlog (r : Result) (s : State) : (result r s).evlog = s.evlog := rfl
@[simp] theorem result_txlog (r : Result) (s : State) : (result r s).txlog = s.txlog := rfl
@[simp] theorem result_port (r : Result) (s : State) : (result r s).port = s.port := rfl
@[simp] theorem result_results (r : Result) (s : State) : (result r s).results = s.results ++ [r] := rfl
@[simp] theorem result_agenda (r : Result) (s : State) : (result r s).agenda = s.agenda := rfl
@[simp] theorem result_delay (r : Result) (s : State) : (result r s).delay = s.delay := rfl
@[simp] theorem result_txPlan (r : Result) (s : State) : (result r s).txPlan = s.txPlan := rfl
@[simp] theorem result_draws (r : Result) (s : State) : (result r s).draws = s.draws := rfl

/-! ## fail -/

@[simp] theorem fail_reg (st : Status) (s : State) : (fail st s).reg = s.reg := rfl
@[simp] theorem fail_bound (st : Status) (s : State) : (fail st s).bound = s.bound := rfl
@[simp] theorem fail_ctrl (st : Status) (s : State) : (fail st s).ctrl = s.ctrl := rfl
@[simp] theorem fail_irq (st : Status) (s : State) : (fail st s).irq = s.irq := rfl
@[simp] theorem fail_busy (st : Status) (s : State) : (fail st s).busy = s.busy := rfl
@[simp] theorem fail_rxq (st : Status) (s : State) : (fail st s).rxq = s.rxq := rfl
@[simp] theorem fail_evlog (st : Status) (s : State) : (fail st s).evlog = s.evlog := rfl
@[simp] theorem fail_txlog (st : Status) (s : State) : (fail st s).txlog = s.txlog := rfl
@[simp] theorem fail_port (st : Status) (s : State) : (fail st s).port = s.port := rfl
@[simp] theorem fail_results (st : Status) (s : State) : (fail st s).results = s.results ++ [{ status := st }] := rfl
@[simp] theorem fail_agenda (st : Status) (s : State) : (fail st s).agenda = s.agenda := rfl
@[simp] theorem fail_delay (st : Status) (s : State) : (fail st s).delay = s.delay := rfl
@[simp] theorem fail_txPlan (st : Status) (s : State) : (fail st s).txPlan = s.txPlan := rfl
@[simp] theorem fail_draws (st : Status) (s : State) : (fail st s).draws = s.draws := rfl

/-! ## evPush -/

@[simp] theorem evPush_reg (e : Event) (s : State) : (evPush e s).reg = s.reg := rfl
@[simp] theorem evPush_bound (e : Event) (s : State) : (evPush e s).bound = s.bound := rfl
@[simp] theorem evPush_ctrl (e : Event) (s : State) : (evPush e s).ctrl = s.ctrl := rfl
@[simp] theorem evPush_irq (e : Event) (s : State) : (evPush e s).irq = s.irq := rfl
@[simp] theorem evPush_busy (e : Event) (s : State) : (evPush e s).busy = s.busy := rfl
@[simp] theorem evPush_rxq (e : Event) (s : State) : (evPush e s).rxq = s.rxq := rfl
@[simp] theorem evPush_evlog (e : Event) (s : State) : (evPush e s).evlog = s.evlog ++ [e] := rfl
@[simp] theorem evPush_txlog (e : Event) (s : State) : (evPush e s).txlog = s.txlog := rfl
@[simp] theorem evPush_port (e : Event) (s : State) : (evPush e s).port = s.port := rfl
@[simp] theorem evPush_results (e : Event) (s : State) : (evPush e s).results = s.results := rfl
@[simp] theorem evPush_agenda (e : Event) (s : State) : (evPush e s).agenda = s.agenda := rfl
@[simp] theorem evPush_delay (e : Event) (s : State) : (evPush e s).delay = s.delay := rfl
@[simp] theorem evPush_txPlan (e : Event) (s : State) : (evPush e s).txPlan = s.txPlan := rfl
@[simp] theorem evPush_draws (e : Event) (s : State) : (evPush e s).draws = s.draws := rfl

/-! ## regAppend -/

@[simp] theorem regAppend_reg (e : Entry) (s : State) : (regAppend e s).reg = s.reg ++ [e] := rfl
@[simp] theorem regAppend_bound (e : Entry) (s : State) : (regAppend e s).bound = s.bound := rfl
@[simp] theorem regAppend_ctrl (e : Entry) (s : State) : (regAppend e s).ctrl = s.ctrl := rfl
@[simp] theorem regAppend_irq (e : Entry) (s : State) : (regAppend e s).irq = s.irq := rfl
@[simp] theorem regAppend_busy (e : Entry) (s : State) : (regAppend e s).busy = s.busy := rfl
@[simp] theorem regAppend_rxq (e : Entry) (s : State) : (regAppend e s).rxq = s.rxq := rfl
@[simp] theorem regAppend_evlog (e : Entry) (s : State) : (regAppend e s).evlog = s.evlog := rfl
@[simp] theorem regAppend_txlog (e : Entry) (s : State) : (regAppend e s).txlog = s.txlog := rfl
@[simp] theorem regAppend_port (e : Entry) (s : State) : (regAppend e s).port = s.port := rfl
@[simp] theorem regAppend_results (e : Entry) (s : State) : (regAppend e s).results = s.results := rfl
@[simp] theorem regAppend_agenda (e : Entry) (s : State) : (regAppend e s).agenda = s.agenda := rfl
@[simp] theorem regAppend_delay (e : Entry) (s : State) : (regAppend e s).delay = s.delay := rfl
@[simp] theorem regAppend_txPlan (e : Entry) (s : State) : (regAppend e s).txPlan = s.txPlan := rfl
@[simp] theorem regAppend_draws (e : Entry) (s : State) : (regAppend e s).draws = s.draws := rfl

/-! ## regRemove -/

@[simp] theorem regRemove_reg (h : BitVec 8) (s : State) : (regRemove h s).reg = s.reg.filter fun e => e.handle != h := rfl
@[simp] theorem regRemove_bound (h : BitVec 8) (s : State) : (regRemove h s).bound = s.bound := rfl
@[simp] theorem regRemove_ctrl (h : BitVec 8) (s : State) : (regRemove h s).ctrl = s.ctrl := rfl
@[simp] theorem regRemove_irq (h : BitVec 8) (s : State) : (regRemove h s).irq = s.irq := rfl
@[simp] theorem regRemove_busy (h : BitVec 8) (s : State) : (regRemove h s).busy = s.busy := rfl
@[simp] theorem regRemove_rxq (h : BitVec 8) (s : State) : (regRemove h s).rxq = s.rxq := rfl
@[simp] theorem regRemove_evlog (h : BitVec 8) (s : State) : (regRemove h s).evlog = s.evlog := rfl
@[simp] theorem regRemove_txlog (h : BitVec 8) (s : State) : (regRemove h s).txlog = s.txlog := rfl
@[simp] theorem regRemove_port (h : BitVec 8) (s : State) : (regRemove h s).port = s.port := rfl
@[simp] theorem regRemove_results (h : BitVec 8) (s : State) : (regRemove h s).results = s.results := rfl
@[simp] theorem regRemove_agenda (h : BitVec 8) (s : State) : (regRemove h s).agenda = s.agenda := rfl
@[simp] theorem regRemove_delay (h : BitVec 8) (s : State) : (regRemove h s).delay = s.delay := rfl
@[simp] theorem regRemove_txPlan (h : BitVec 8) (s : State) : (regRemove h s).txPlan = s.txPlan := rfl
@[simp] theorem regRemove_draws (h : BitVec 8) (s : State) : (regRemove h s).draws = s.draws := rfl

/-! ## bindTransport -/

@[simp] theorem bindTransport_reg (c i : BitVec 8) (s : State) : (bindTransport c i s).reg = s.reg := rfl
@[simp] theorem bindTransport_bound (c i : BitVec 8) (s : State) : (bindTransport c i s).bound = true := rfl
@[simp] theorem bindTransport_ctrl (c i : BitVec 8) (s : State) : (bindTransport c i s).ctrl = c := rfl
@[simp] theorem bindTransport_irq (c i : BitVec 8) (s : State) : (bindTransport c i s).irq = i := rfl
@[simp] theorem bindTransport_busy (c i : BitVec 8) (s : State) : (bindTransport c i s).busy = s.busy := rfl
@[simp] theorem bindTransport_rxq (c i : BitVec 8) (s : State) : (bindTransport c i s).rxq = s.rxq := rfl
@[simp] theorem bindTransport_evlog (c i : BitVec 8) (s : State) : (bindTransport c i s).evlog = s.evlog := rfl
@[simp] theorem bindTransport_txlog (c i : BitVec 8) (s : State) : (bindTransport c i s).txlog = s.txlog := rfl
@[simp] theorem bindTransport_port (c i : BitVec 8) (s : State) : (bindTransport c i s).port = s.port := rfl
@[simp] theorem bindTransport_results (c i : BitVec 8) (s : State) : (bindTransport c i s).results = s.results := rfl
@[simp] theorem bindTransport_agenda (c i : BitVec 8) (s : State) : (bindTransport c i s).agenda = s.agenda := rfl
@[simp] theorem bindTransport_delay (c i : BitVec 8) (s : State) : (bindTransport c i s).delay = s.delay := rfl
@[simp] theorem bindTransport_txPlan (c i : BitVec 8) (s : State) : (bindTransport c i s).txPlan = s.txPlan := rfl
@[simp] theorem bindTransport_draws (c i : BitVec 8) (s : State) : (bindTransport c i s).draws = s.draws := rfl

/-! ## issue -/

@[simp] theorem issue_reg (c : Command) (s : State) : (issue c s).reg = s.reg := rfl
@[simp] theorem issue_bound (c : Command) (s : State) : (issue c s).bound = s.bound := rfl
@[simp] theorem issue_ctrl (c : Command) (s : State) : (issue c s).ctrl = s.ctrl := rfl
@[simp] theorem issue_irq (c : Command) (s : State) : (issue c s).irq = s.irq := rfl
@[simp] theorem issue_busy (c : Command) (s : State) : (issue c s).busy = s.busy := rfl
@[simp] theorem issue_rxq (c : Command) (s : State) : (issue c s).rxq = s.rxq := rfl
@[simp] theorem issue_evlog (c : Command) (s : State) : (issue c s).evlog = s.evlog := rfl
@[simp] theorem issue_txlog (c : Command) (s : State) : (issue c s).txlog = s.txlog := rfl
@[simp] theorem issue_port (c : Command) (s : State) : (issue c s).port = s.port ++ [c] := rfl
@[simp] theorem issue_results (c : Command) (s : State) : (issue c s).results = s.results := rfl
@[simp] theorem issue_agenda (c : Command) (s : State) : (issue c s).agenda = s.agenda := rfl
@[simp] theorem issue_delay (c : Command) (s : State) : (issue c s).delay = s.delay := rfl
@[simp] theorem issue_txPlan (c : Command) (s : State) : (issue c s).txPlan = s.txPlan := rfl
@[simp] theorem issue_draws (c : Command) (s : State) : (issue c s).draws = s.draws := rfl

/-! ## settleAnswer -/

@[simp] theorem settleAnswer_reg (b : Bool) (s : State) : (settleAnswer b s).reg = s.reg := rfl
@[simp] theorem settleAnswer_bound (b : Bool) (s : State) : (settleAnswer b s).bound = s.bound := rfl
@[simp] theorem settleAnswer_ctrl (b : Bool) (s : State) : (settleAnswer b s).ctrl = s.ctrl := rfl
@[simp] theorem settleAnswer_irq (b : Bool) (s : State) : (settleAnswer b s).irq = s.irq := rfl
@[simp] theorem settleAnswer_busy (b : Bool) (s : State) : (settleAnswer b s).busy = s.busy := rfl
@[simp] theorem settleAnswer_rxq (b : Bool) (s : State) : (settleAnswer b s).rxq = s.rxq := rfl
@[simp] theorem settleAnswer_evlog (b : Bool) (s : State) : (settleAnswer b s).evlog = s.evlog := rfl
@[simp] theorem settleAnswer_txlog (b : Bool) (s : State) : (settleAnswer b s).txlog = s.txlog := rfl
@[simp] theorem settleAnswer_port (b : Bool) (s : State) : (settleAnswer b s).port = s.port := rfl
@[simp] theorem settleAnswer_results (b : Bool) (s : State) : (settleAnswer b s).results = s.results := rfl
@[simp] theorem settleAnswer_agenda (b : Bool) (s : State) : (settleAnswer b s).agenda = s.agenda := rfl
@[simp] theorem settleAnswer_delay (b : Bool) (s : State) : (settleAnswer b s).delay = s.delay := rfl
@[simp] theorem settleAnswer_txPlan (b : Bool) (s : State) : (settleAnswer b s).txPlan = s.txPlan ++ [b] := rfl
@[simp] theorem settleAnswer_draws (b : Bool) (s : State) : (settleAnswer b s).draws = s.draws := rfl

/-! ## resetBlock -/

@[simp] theorem resetBlock_reg (s : State) : (resetBlock s).reg = [] := rfl
@[simp] theorem resetBlock_bound (s : State) : (resetBlock s).bound = false := rfl
@[simp] theorem resetBlock_ctrl (s : State) : (resetBlock s).ctrl = 0 := rfl
@[simp] theorem resetBlock_irq (s : State) : (resetBlock s).irq = 0 := rfl
@[simp] theorem resetBlock_busy (s : State) : (resetBlock s).busy = false := rfl
@[simp] theorem resetBlock_rxq (s : State) : (resetBlock s).rxq = [] := rfl
@[simp] theorem resetBlock_evlog (s : State) : (resetBlock s).evlog = s.evlog := rfl
@[simp] theorem resetBlock_txlog (s : State) : (resetBlock s).txlog = s.txlog := rfl
@[simp] theorem resetBlock_port (s : State) : (resetBlock s).port = s.port := rfl
@[simp] theorem resetBlock_results (s : State) : (resetBlock s).results = s.results := rfl
@[simp] theorem resetBlock_agenda (s : State) : (resetBlock s).agenda = s.agenda := rfl
@[simp] theorem resetBlock_delay (s : State) : (resetBlock s).delay = s.delay := rfl
@[simp] theorem resetBlock_txPlan (s : State) : (resetBlock s).txPlan = s.txPlan := rfl
@[simp] theorem resetBlock_draws (s : State) : (resetBlock s).draws = s.draws := rfl

/-! ## txAnswered, arrive and nextTurn: the fields they leave as they were -/

@[simp] theorem txAnswered_reg (s : State) : (txAnswered s).reg = s.reg := by
  unfold txAnswered; split <;> rfl
@[simp] theorem txAnswered_bound (s : State) : (txAnswered s).bound = s.bound := by
  unfold txAnswered; split <;> rfl
@[simp] theorem txAnswered_ctrl (s : State) : (txAnswered s).ctrl = s.ctrl := by
  unfold txAnswered; split <;> rfl
@[simp] theorem txAnswered_irq (s : State) : (txAnswered s).irq = s.irq := by
  unfold txAnswered; split <;> rfl
@[simp] theorem txAnswered_busy (s : State) : (txAnswered s).busy = s.busy := by
  unfold txAnswered; split <;> rfl
@[simp] theorem txAnswered_rxq (s : State) : (txAnswered s).rxq = s.rxq := by
  unfold txAnswered; split <;> rfl
@[simp] theorem txAnswered_evlog (s : State) : (txAnswered s).evlog = s.evlog := by
  unfold txAnswered; split <;> rfl
@[simp] theorem txAnswered_txlog (s : State) : (txAnswered s).txlog = s.txlog := by
  unfold txAnswered; split <;> rfl
@[simp] theorem txAnswered_port (s : State) : (txAnswered s).port = s.port := by
  unfold txAnswered; split <;> rfl
@[simp] theorem txAnswered_results (s : State) : (txAnswered s).results = s.results := by
  unfold txAnswered; split <;> rfl
@[simp] theorem txAnswered_agenda (s : State) : (txAnswered s).agenda = s.agenda := by
  unfold txAnswered; split <;> rfl
@[simp] theorem txAnswered_delay (s : State) : (txAnswered s).delay = s.delay := by
  unfold txAnswered; split <;> rfl
@[simp] theorem arrive_reg (f : RxFrame) (s : State) : (arrive f s).reg = s.reg := by
  unfold arrive; split <;> rfl
@[simp] theorem arrive_bound (f : RxFrame) (s : State) : (arrive f s).bound = s.bound := by
  unfold arrive; split <;> rfl
@[simp] theorem arrive_ctrl (f : RxFrame) (s : State) : (arrive f s).ctrl = s.ctrl := by
  unfold arrive; split <;> rfl
@[simp] theorem arrive_irq (f : RxFrame) (s : State) : (arrive f s).irq = s.irq := by
  unfold arrive; split <;> rfl
@[simp] theorem arrive_busy (f : RxFrame) (s : State) : (arrive f s).busy = s.busy := by
  unfold arrive; split <;> rfl
@[simp] theorem arrive_evlog (f : RxFrame) (s : State) : (arrive f s).evlog = s.evlog := by
  unfold arrive; split <;> rfl
@[simp] theorem arrive_txlog (f : RxFrame) (s : State) : (arrive f s).txlog = s.txlog := by
  unfold arrive; split <;> rfl
@[simp] theorem arrive_port (f : RxFrame) (s : State) : (arrive f s).port = s.port := by
  unfold arrive; split <;> rfl
@[simp] theorem arrive_results (f : RxFrame) (s : State) : (arrive f s).results = s.results := by
  unfold arrive; split <;> rfl
@[simp] theorem arrive_agenda (f : RxFrame) (s : State) : (arrive f s).agenda = s.agenda := by
  unfold arrive; split <;> rfl
@[simp] theorem arrive_delay (f : RxFrame) (s : State) : (arrive f s).delay = s.delay := by
  unfold arrive; split <;> rfl
@[simp] theorem arrive_txPlan (f : RxFrame) (s : State) : (arrive f s).txPlan = s.txPlan := by
  unfold arrive; split <;> rfl
@[simp] theorem arrive_draws (f : RxFrame) (s : State) : (arrive f s).draws = s.draws := by
  unfold arrive; split <;> rfl

/-! ## The choice of a turn -/

@[simp] theorem openTurn_reg (s : State) : (openTurn s).2.reg = s.reg := by
  unfold openTurn; split <;> (try split) <;> rfl
@[simp] theorem openTurn_bound (s : State) : (openTurn s).2.bound = s.bound := by
  unfold openTurn; split <;> (try split) <;> rfl
@[simp] theorem openTurn_ctrl (s : State) : (openTurn s).2.ctrl = s.ctrl := by
  unfold openTurn; split <;> (try split) <;> rfl
@[simp] theorem openTurn_irq (s : State) : (openTurn s).2.irq = s.irq := by
  unfold openTurn; split <;> (try split) <;> rfl
@[simp] theorem openTurn_busy (s : State) : (openTurn s).2.busy = s.busy := by
  unfold openTurn; split <;> (try split) <;> rfl
@[simp] theorem openTurn_rxq (s : State) : (openTurn s).2.rxq = s.rxq := by
  unfold openTurn; split <;> (try split) <;> rfl
@[simp] theorem openTurn_evlog (s : State) : (openTurn s).2.evlog = s.evlog := by
  unfold openTurn; split <;> (try split) <;> rfl
@[simp] theorem openTurn_txlog (s : State) : (openTurn s).2.txlog = s.txlog := by
  unfold openTurn; split <;> (try split) <;> rfl
@[simp] theorem openTurn_port (s : State) : (openTurn s).2.port = s.port := by
  unfold openTurn; split <;> (try split) <;> rfl
@[simp] theorem openTurn_results (s : State) : (openTurn s).2.results = s.results := by
  unfold openTurn; split <;> (try split) <;> rfl
@[simp] theorem openTurn_agenda (s : State) : (openTurn s).2.agenda = s.agenda := by
  unfold openTurn; split <;> (try split) <;> rfl
@[simp] theorem openTurn_txPlan (s : State) : (openTurn s).2.txPlan = s.txPlan := by
  unfold openTurn; split <;> (try split) <;> rfl
@[simp] theorem nextTurn_reg (s : State) : (nextTurn s).2.reg = s.reg := by
  unfold nextTurn; split <;> simp
@[simp] theorem nextTurn_bound (s : State) : (nextTurn s).2.bound = s.bound := by
  unfold nextTurn; split <;> simp
@[simp] theorem nextTurn_ctrl (s : State) : (nextTurn s).2.ctrl = s.ctrl := by
  unfold nextTurn; split <;> simp
@[simp] theorem nextTurn_irq (s : State) : (nextTurn s).2.irq = s.irq := by
  unfold nextTurn; split <;> simp
@[simp] theorem nextTurn_busy (s : State) : (nextTurn s).2.busy = s.busy := by
  unfold nextTurn; split <;> simp
@[simp] theorem nextTurn_rxq (s : State) : (nextTurn s).2.rxq = s.rxq := by
  unfold nextTurn; split <;> simp
@[simp] theorem nextTurn_evlog (s : State) : (nextTurn s).2.evlog = s.evlog := by
  unfold nextTurn; split <;> simp
@[simp] theorem nextTurn_txlog (s : State) : (nextTurn s).2.txlog = s.txlog := by
  unfold nextTurn; split <;> simp
@[simp] theorem nextTurn_port (s : State) : (nextTurn s).2.port = s.port := by
  unfold nextTurn; split <;> simp
@[simp] theorem nextTurn_results (s : State) : (nextTurn s).2.results = s.results := by
  unfold nextTurn; split <;> simp
@[simp] theorem nextTurn_txPlan (s : State) : (nextTurn s).2.txPlan = s.txPlan := by
  unfold nextTurn; split <;> simp

end Sys2Proof.Machine
end

