-- ==== Sys2Proof/Laws/Ops.lean ====
section
/-! SUPPORT. For each shared operation, everything it can do, said once. -/

namespace Sys2Proof.Machine

/-- `RxPop` on a queue with a head. -/
theorem rxPop_cons (s : State) (f : RxFrame) (rest : List RxFrame) (h : s.rxq = f :: rest) :
    rxPop s = some (f, { s with rxq := rest }) := by
  simp [rxPop, h]

/-- `RxPop` on the empty queue. -/
theorem rxPop_nil (s : State) (h : s.rxq = []) : rxPop s = none := by
  simp [rxPop, h]

/-- The answer to an offer, where the transport has settled it. -/
theorem txAnswer_settled (s : State) (b : Bool) (bs : List Bool) (h : s.txPlan = b :: bs) : txAnswer s = b := by
  simp [txAnswer, h]

/-- The answer to an offer, where it is a free value. -/
theorem txAnswer_free (s : State) (h : s.txPlan = []) : txAnswer s = Config.freeAnswer s.draws := by
  simp [txAnswer, h]

/-- An offer: the answer, and the transmit history that goes with it. -/
theorem txOffer_cases (f : TxFrame) (s : State) :
    (txAnswer s = true ∧ txOffer f s = (true, { txAnswered s with txlog := s.txlog ++ [f] })) ∨
    (txAnswer s = false ∧ txOffer f s = (false, txAnswered s)) := by
  cases h : txAnswer s <;> simp [txOffer, h]

/-- The tests before an offer: each outcome with what it means. -/
theorem transmitFailure_cases (b : Bool) (len : BitVec 4) :
    (b = false ∧ transmitFailure b len = some .notBound) ∨
    (b = true ∧ Config.maxLen < len ∧ transmitFailure b len = some .lengthInvalid) ∨
    (b = true ∧ len ≤ Config.maxLen ∧ transmitFailure b len = none) := by
  cases b
  · exact .inl ⟨rfl, rfl⟩
  · by_cases h : Config.maxLen < len
    · exact .inr (.inl ⟨rfl, h, by simp [transmitFailure, h]⟩)
    · exact .inr (.inr ⟨rfl, BitVec.not_lt.mp h, by simp [transmitFailure, h]⟩)

/-- A transmit command: it fails with a status and writes nothing, or it offers the frame and the transport accepts
it or does not. -/
theorem transmit_cases (f : TxFrame) (s : State) :
    (s.bound = false ∧ transmit f s = fail .notBound s) ∨
    (s.bound = true ∧ Config.maxLen < f.len ∧ transmit f s = fail .lengthInvalid s) ∨
    (s.bound = true ∧ f.len ≤ Config.maxLen ∧ txAnswer s = true ∧
      transmit f s = result { status := .ok } { txAnswered s with txlog := s.txlog ++ [f] }) ∨
    (s.bound = true ∧ f.len ≤ Config.maxLen ∧ txAnswer s = false ∧
      transmit f s = fail .transportRejected (txAnswered s)) := by
  rcases transmitFailure_cases s.bound f.len with ⟨hb, h⟩ | ⟨hb, hl, h⟩ | ⟨hb, hl, h⟩
  · exact .inl ⟨hb, by simp only [transmit, h]⟩
  · exact .inr (.inl ⟨hb, hl, by simp only [transmit, h]⟩)
  · rcases txOffer_cases f s with ⟨ha, ho⟩ | ⟨ha, ho⟩
    · exact .inr (.inr (.inl ⟨hb, hl, ha, by simp only [transmit, h, ho]⟩))
    · exact .inr (.inr (.inr ⟨hb, hl, ha, by simp only [transmit, h, ho]⟩))

/-- The step of an UPDATE in progress: the dispatch step or the end step. -/
theorem updateStep_cases (s : State) :
    (s.rxq = [] ∧ updateStep s = endStep s) ∨
    (∃ f rest, s.rxq = f :: rest ∧ updateStep s = evPush (eventOf s.reg f) { s with rxq := rest }) := by
  cases h : s.rxq with
  | nil => exact .inl ⟨rfl, by simp only [updateStep, rxPop_nil s h]⟩
  | cons f rest => exact .inr ⟨f, rest, rfl, by simp only [updateStep, rxPop_cons s f rest h]⟩

/-- An arrival: the frame at the tail of the queue, or nothing. -/
theorem arrive_cases (f : RxFrame) (s : State) :
    (s.bound = true ∧ s.rxq.length < Config.rxqDepth ∧ arrive f s = { s with rxq := s.rxq ++ [f] }) ∨
    ((s.bound = false ∨ Config.rxqDepth ≤ s.rxq.length) ∧ arrive f s = s) := by
  by_cases h : arrivalEnabled s = true
  · have h' := h
    simp only [arrivalEnabled, Bool.and_eq_true, decide_eq_true_eq] at h'
    exact .inl ⟨h'.1, h'.2, by simp [arrive, h]⟩
  · have h' := h
    simp only [arrivalEnabled, Bool.and_eq_true, decide_eq_true_eq, not_and, Nat.not_lt] at h'
    refine .inr ⟨?_, by simp [arrive, h]⟩
    cases hb : s.bound
    · exact .inl rfl
    · exact .inr (h' hb)

/-- An open turn: a free one with a new delay, where no UPDATE is in progress; a free one that uses up the delay, where
one is; and the block's with a new delay, where the delay is used up (R169). -/
theorem openTurn_cases (s : State) :
    (s.busy = false ∧
      openTurn s = (Config.freeTurn s.draws, { s with delay := Config.freeDelay s.draws, draws := s.draws + 1 })) ∨
    (s.busy = true ∧ s.delay = 0 ∧
      openTurn s = (.block, { s with delay := Config.freeDelay s.draws, draws := s.draws + 1 })) ∨
    (∃ d, s.busy = true ∧ s.delay = d + 1 ∧
      openTurn s = (Config.freeTurn s.draws, { s with delay := d, draws := s.draws + 1 })) := by
  cases hb : s.busy with
  | false => exact .inl ⟨rfl, by simp [openTurn, hb]⟩
  | true =>
    cases hd : s.delay with
    | zero => exact .inr (.inl ⟨rfl, rfl, by simp [openTurn, hb, hd]⟩)
    | succ d => exact .inr (.inr ⟨d, rfl, rfl, by simp [openTurn, hb, hd]⟩)

/-- The choice of a turn: the agenda's head, or an open turn. -/
theorem nextTurn_cases (s : State) :
    (∃ t rest, s.agenda = t :: rest ∧ nextTurn s = (t, { s with agenda := rest })) ∨
    (s.agenda = [] ∧ nextTurn s = openTurn s) := by
  cases h : s.agenda with
  | nil => exact .inr ⟨rfl, by simp [nextTurn, h]⟩
  | cons t rest => exact .inl ⟨t, rest, rfl, by simp [nextTurn, h]⟩

/-- While an UPDATE is in progress, every turn but the block's brings the block's turn nearer. -/
theorem nextTurn_nearer (s : State) (hb : s.busy = true) (ht : (nextTurn s).1 ≠ .block) :
    (nextTurn s).2.agenda.length + (nextTurn s).2.delay + 1 = s.agenda.length + s.delay := by
  rcases nextTurn_cases s with ⟨t, rest, ha, h⟩ | ⟨ha, h⟩
  · rw [h, ha]
    simp only [List.length_cons]
    omega
  · rw [h] at ht ⊢
    rcases openTurn_cases s with ⟨hn, _⟩ | ⟨_, _, ho⟩ | ⟨d, _, hd, ho⟩
    · rw [hb] at hn; cases hn
    · rw [ho] at ht; exact absurd rfl ht
    · rw [ho, hd]; rfl

end Sys2Proof.Machine
end

