-- ==== Sys2Proof/Laws/Exec.lean ====
section
/-! SUPPORT. What a command can do, one lemma per meaning: the next state it answers, by cases on what it tests. -/

namespace Sys2Proof.Machine

/-- MATCH: the result of a hit, or of a miss. -/
theorem execMatch_eq (id k : Ident) (s : State) :
    execMatch id k s =
      .next (result { status := .ok, hit := matchesKey id k, sub := if matchesKey id k then subIndex id else 0 } s) := by
  cases h : matchesKey id k <;> simp [execMatch, h]

/-- BIND: refused, or the binding written. -/
theorem execBind_cases (c i : BitVec 8) (s : State) :
    (s.bound = true ∧ execBind c i s = .next (fail .alreadyBound s)) ∨
    (s.bound = false ∧ execBind c i s = .next (result { status := .ok } (bindTransport c i s))) := by
  cases h : s.bound <;> simp [execBind, h]

/-- REGISTER: refused, or one entry appended. -/
theorem execRegister_cases (h n m t : BitVec 8) (s : State) :
    (s.reg.length = Config.regCap ∧ execRegister h n m t s = .next (fail .capacityExceeded s)) ∨
    (s.reg.length ≠ Config.regCap ∧
      execRegister h n m t s = .next (result { status := .ok } (regAppend { handle := h, key := keyOf n m t } s))) := by
  by_cases hf : s.reg.length = Config.regCap
  · exact .inl ⟨hf, by simp [execRegister, registryFull, hf]⟩
  · exact .inr ⟨hf, by simp [execRegister, registryFull, hf]⟩

/-- UPDATE's start step: refused, or `busy` set. -/
theorem execUpdate_cases (s : State) :
    (s.bound = false ∧ execUpdate s = .next (fail .notBound s)) ∨
    (s.bound = true ∧ execUpdate s = .next { s with busy := true }) := by
  cases h : s.bound <;> simp [execUpdate, h]

/-- Everything a command can do: return a result and no more, bind, register, unregister, start an UPDATE, or
transmit. -/
theorem exec_cases (i : Instr) (s t : State) (h : exec i s = .next t) :
    (∃ r, t = result r s) ∨
    (∃ c q, i = .bind c q ∧ s.bound = false ∧ t = result { status := .ok } (bindTransport c q s)) ∨
    (∃ hd n m ty, i = .register hd n m ty ∧ s.reg.length ≠ Config.regCap ∧
      t = result { status := .ok } (regAppend { handle := hd, key := keyOf n m ty } s)) ∨
    (∃ hd, i = .unregister hd ∧ t = result { status := .ok } (regRemove hd s)) ∨
    (i = .update ∧ s.bound = true ∧ t = { s with busy := true }) ∨
    (∃ api n m ty len data, i = .writePacket api n m ty len data ∧
      t = transmit { id := enc api n m ty, rtr := false, len := len, data := data } s) ∨
    (∃ api n m ty len, i = .writeRtr api n m ty len ∧
      t = transmit { id := enc api n m ty, rtr := true, len := len, data := zeroPayload } s) := by
  cases i with
  | encode api n m ty => cases h; exact .inl ⟨_, rfl⟩
  | decode id => cases h; exact .inl ⟨_, rfl⟩
  | key n m ty => cases h; exact .inl ⟨_, rfl⟩
  | matchKey id k => rw [exec, execMatch_eq] at h; cases h; exact .inl ⟨_, rfl⟩
  | bind c q =>
    rcases execBind_cases c q s with ⟨_, e⟩ | ⟨hb, e⟩ <;> rw [exec, e] at h <;> cases h
    · exact .inl ⟨_, rfl⟩
    · exact .inr (.inl ⟨c, q, rfl, hb, rfl⟩)
  | register hd n m ty =>
    rcases execRegister_cases hd n m ty s with ⟨_, e⟩ | ⟨hl, e⟩ <;> rw [exec, e] at h <;> cases h
    · exact .inl ⟨_, rfl⟩
    · exact .inr (.inr (.inl ⟨hd, n, m, ty, rfl, hl, rfl⟩))
  | unregister hd => cases h; exact .inr (.inr (.inr (.inl ⟨hd, rfl, rfl⟩)))
  | update =>
    rcases execUpdate_cases s with ⟨_, e⟩ | ⟨hb, e⟩ <;> rw [exec, e] at h <;> cases h
    · exact .inl ⟨_, rfl⟩
    · exact .inr (.inr (.inr (.inr (.inl ⟨rfl, hb, rfl⟩))))
  | writePacket api n m ty len data =>
    cases h; exact .inr (.inr (.inr (.inr (.inr (.inl ⟨api, n, m, ty, len, data, rfl, rfl⟩)))))
  | writeRtr api n m ty len =>
    cases h; exact .inr (.inr (.inr (.inr (.inr (.inr ⟨api, n, m, ty, len, rfl, rfl⟩)))))
  | reserved0 => cases h; exact .inl ⟨_, rfl⟩
  | reservedB => cases h; exact .inl ⟨_, rfl⟩
  | reservedC => cases h; exact .inl ⟨_, rfl⟩
  | reservedD => cases h; exact .inl ⟨_, rfl⟩
  | reservedE => cases h; exact .inl ⟨_, rfl⟩
  | reservedF => cases h; exact .inl ⟨_, rfl⟩

end Sys2Proof.Machine
end

