-- ==== Sys2Proof/Laws/Operands.lean ====
section
/-! SUPPORT. The identifier codec bit by bit: which operand's bit each bit of an identifier is, and which bits the
masks keep. -/

namespace Sys2Proof.Machine

/-- Bit `k` of an encoded identifier is a bit of the operand whose field `k` lies in (R70, R100). -/
theorem enc_getLsbD (api : BitVec 16) (num mfr type : BitVec 8) (k : Nat) :
    (enc api num mfr type).getLsbD k =
      if k < 6 then num.getLsbD k
      else if k < 16 then api.getLsbD (k - 6)
      else if k < 24 then mfr.getLsbD (k - 16)
      else if k < 29 then type.getLsbD (k - 24)
      else false := by
  simp only [enc, BitVec.getLsbD_or, BitVec.getLsbD_shiftLeft, BitVec.getLsbD_setWidth, BitVec.getLsbD_extractLsb',
    Nat.zero_add]
  by_cases h6 : k < 6
  · simp [h6, show k < 24 by omega, show k < 16 by omega, show k < 29 by omega]
  by_cases h16 : k < 16
  · simp [h6, h16, show k < 24 by omega, show k < 29 by omega, show k - 6 < 10 by omega, show k - 6 < 29 by omega]
  by_cases h24 : k < 24
  · simp [h6, h16, h24, show k < 29 by omega, show ¬ k - 6 < 10 by omega, show k - 16 < 8 by omega,
      show k - 16 < 29 by omega]
  by_cases h29 : k < 29
  · simp [h6, h16, h24, h29, show ¬ k - 6 < 10 by omega, show ¬ k - 16 < 8 by omega, show k - 24 < 5 by omega,
      show k - 24 < 29 by omega]
  · simp [h6, h16, h24, h29]

/-- MATCH_MASK keeps every bit of an identifier but those of the API id (R73). -/
theorem and_matchMask_getLsbD (id : Ident) (k : Nat) :
    (id &&& matchMask).getLsbD k = if 6 ≤ k ∧ k < 16 then false else id.getLsbD k := by
  by_cases hk : k < 29
  · rw [BitVec.getLsbD_and]
    interval_cases k <;> simp [matchMask]
  · simp [BitVec.getLsbD_of_ge id k (by omega)]

/-- EXTRACT_MASK keeps the bits of the API id alone (R74). -/
theorem and_extractMask_getLsbD (id : Ident) (k : Nat) :
    (id &&& extractMask).getLsbD k = if 6 ≤ k ∧ k < 16 then id.getLsbD k else false := by
  by_cases hk : k < 29
  · rw [BitVec.getLsbD_and]
    interval_cases k <;> simp [extractMask]
  · simp [BitVec.getLsbD_of_ge id k (by omega)]

/-- Bit `k` of the sub-index is bit `k + 6` of the identifier (R121). -/
theorem subIndex_getLsbD (id : Ident) (k : Nat) :
    (subIndex id).getLsbD k = if k < 10 then id.getLsbD (k + 6) else false := by
  rw [subIndex, BitVec.getLsbD_setWidth, BitVec.getLsbD_ushiftRight, extractShift, and_extractMask_getLsbD]
  by_cases hk : k < 10
  · simp [hk, show k + 6 < 16 by omega, Nat.add_comm 6 k]
  · simp [hk]

end Sys2Proof.Machine
end

