-- ==== Sys2Proof/Laws/PerInstr.lean ====
section
/-! SUPPORT. Statements about every command as syntax, one lemma per constructor of `Instr`. -/

namespace Sys2Proof.Laws.EncodedOpcode

/-- The encoder puts R81's opcode of the command in `CW[3:0]`. -/
def Statement (i : Instr) : Prop := opOf (encode i) = opcodeOf i

theorem encode (api : BitVec 16) (num mfr type : BitVec 8) : Statement (.encode api num mfr type) := low_formatI ..
theorem decode (id : Ident) : Statement (.decode id) := low_formatD ..
theorem key (num mfr type : BitVec 8) : Statement (.key num mfr type) := low_formatI ..
theorem matchKey (id k : Ident) : Statement (.matchKey id k) := low_formatD ..
theorem bind (ctrl irq : BitVec 8) : Statement (.bind ctrl irq) := low_formatB ..
theorem register (h num mfr type : BitVec 8) : Statement (.register h num mfr type) := low_formatI ..
theorem unregister (h : BitVec 8) : Statement (.unregister h) := low_formatH ..
theorem update : Statement .update := low_formatN ..
theorem writePacket (api : BitVec 16) (num mfr type : BitVec 8) (len : BitVec 4) (data : Payload) :
    Statement (.writePacket api num mfr type len data) := low_formatI ..
theorem writeRtr (api : BitVec 16) (num mfr type : BitVec 8) (len : BitVec 4) :
    Statement (.writeRtr api num mfr type len) := low_formatI ..
theorem reserved0 : Statement .reserved0 := low_formatN ..
theorem reservedB : Statement .reservedB := low_formatN ..
theorem reservedC : Statement .reservedC := low_formatN ..
theorem reservedD : Statement .reservedD := low_formatN ..
theorem reservedE : Statement .reservedE := low_formatN ..
theorem reservedF : Statement .reservedF := low_formatN ..

end Sys2Proof.Laws.EncodedOpcode
end

