-- ==== Sys2Proof/Laws/Step.lean ====
section
/-! SUPPORT. The step by whose turn it is: what one step can be, said once. -/

namespace Sys2Proof.Machine

/-- A step where the agenda fixes the turn. -/
theorem step_of_agenda (s : State) (t : Turn) (rest : List Turn) (h : s.agenda = t :: rest) :
    step s = takeTurn t { s with agenda := rest } := by
  simp [step, nextTurn, h]

/-- The block's turn while an UPDATE is in progress. -/
theorem blockTurn_busy (s : State) (h : s.busy = true) : blockTurn s = .next (updateStep s) := by
  simp [blockTurn, h]

/-- The block's turn with a command to accept. -/
theorem blockTurn_accepts (s : State) (c : Command) (rest : List Command) (hb : s.busy = false)
    (hp : s.port = c :: rest) : blockTurn s = exec (decode c) { s with port := rest } := by
  simp [blockTurn, acceptCommand, hb, hp]

/-- The block's turn with nothing to do. -/
theorem blockTurn_idle (s : State) (hb : s.busy = false) (hp : s.port = []) : blockTurn s = .next s := by
  simp [blockTurn, acceptCommand, hb, hp]

/-- Everything the block's turn can be. -/
theorem blockTurn_cases (s : State) :
    (s.busy = true ∧ blockTurn s = .next (updateStep s)) ∨
    (s.busy = false ∧ s.port = [] ∧ blockTurn s = .next s) ∨
    (∃ c rest, s.busy = false ∧ s.port = c :: rest ∧ blockTurn s = exec (decode c) { s with port := rest }) := by
  rcases Bool.eq_false_or_eq_true s.busy with hb | hb
  · exact .inl ⟨hb, blockTurn_busy s hb⟩
  · rcases hp : s.port with _ | ⟨c, rest⟩
    · exact .inr (.inl ⟨hb, rfl, blockTurn_idle s hb hp⟩)
    · exact .inr (.inr ⟨c, rest, hb, rfl, blockTurn_accepts s c rest hb hp⟩)

/-- Everything a step can be, by whose turn it is. `(nextTurn s).2` is the state with the choice of the turn made. -/
theorem step_cases (s t : State) (h : step s = .next t) :
    ((nextTurn s).1 = .block ∧ s.busy = true ∧ t = updateStep (nextTurn s).2) ∨
    ((nextTurn s).1 = .block ∧ s.busy = false ∧ s.port = [] ∧ t = (nextTurn s).2) ∨
    (∃ c rest, (nextTurn s).1 = .block ∧ s.busy = false ∧ s.port = c :: rest ∧
      exec (decode c) { (nextTurn s).2 with port := rest } = .next t) ∨
    (∃ c, (nextTurn s).1 = .issue c ∧ t = issue c (nextTurn s).2) ∨
    (∃ f, (nextTurn s).1 = .arrive f ∧ t = arrive f (nextTurn s).2) ∨
    (∃ b, (nextTurn s).1 = .answer b ∧ t = settleAnswer b (nextTurn s).2) ∨
    ((nextTurn s).1 = .reset ∧ t = resetBlock (nextTurn s).2) := by
  rw [step] at h
  cases ht : (nextTurn s).1 with
  | block =>
    rw [ht, takeTurn] at h
    rcases blockTurn_cases (nextTurn s).2 with ⟨hb, e⟩ | ⟨hb, hp, e⟩ | ⟨c, rest, hb, hp, e⟩ <;> rw [e] at h <;>
      simp only [nextTurn_busy] at hb
    · cases h; exact .inl ⟨rfl, hb, rfl⟩
    · cases h; exact .inr (.inl ⟨rfl, hb, by simpa using hp, rfl⟩)
    · exact .inr (.inr (.inl ⟨c, rest, rfl, hb, by simpa using hp, h⟩))
  | issue c => rw [ht] at h; cases h; exact .inr (.inr (.inr (.inl ⟨c, rfl, rfl⟩)))
  | arrive f => rw [ht] at h; cases h; exact .inr (.inr (.inr (.inr (.inl ⟨f, rfl, rfl⟩))))
  | answer b => rw [ht] at h; cases h; exact .inr (.inr (.inr (.inr (.inr (.inl ⟨b, rfl, rfl⟩)))))
  | reset => rw [ht] at h; cases h; exact .inr (.inr (.inr (.inr (.inr (.inr ⟨rfl, rfl⟩)))))

/-- A run of one step more. -/
theorem run_succ (k : Nat) (s t : State) (h : step s = .next t) :
    Host.Core.run Sys2Proof.core (k + 1) s = Host.Core.run Sys2Proof.core k t := by
  have h' : Sys2Proof.core.step s = .next t := h
  simp only [Host.Core.run, h']

/-- A placed command is what the next step executes (log entries 15 and 16). -/
theorem step_withFetchWord (s : State) (nbits w : Nat) :
    step (s.withFetchWord nbits w) = exec (decode (commandOfTable nbits w)) { s with busy := false } := by
  rw [State.withFetchWord, step_of_agenda _ .block s.agenda rfl, takeTurn, blockTurn_accepts _ _ s.port rfl rfl]
  rfl

end Sys2Proof.Machine
end

