-- ==== Sys2Proof/Tests/Slice0.lean ====
section
/-! SUPPORT. Tests of the model, with expected values from the spec (spec/95_test_vectors.md and the rules' own
examples), and a witness for the hypotheses of every statement of Certificates/Slice0/Obligations.lean. -/

namespace Sys2Proof.Tests

open Sys2Proof Sys2Proof.Machine Sys2Proof.Safety

/-! ## Small states -/

/-- The next state of an outcome. -/
def nextOf (o : Host.Outcome State Fault Refusal) : Option State :=
  match o with
  | .next s => some s
  | .fault _ => none
  | .refused _ => none

/-- The results that a command returns from a state with none. -/
def resultsOf (i : Instr) (s : State) : Option (List Result) := (nextOf (exec i s)).map State.results

/-- The vectors' state "bound": reset, then `BIND ctrl=1, irq=2`. -/
def boundState : State := { State.reset with bound := true, ctrl := 1, irq := 2 }

/-- The vectors' registry entry `{1, 0x02040005}`. -/
def motor : Entry := { handle := 1, key := 0x02040005 }

/-- The frame of V-L1-3. -/
def motorFrame : RxFrame := { id := 0x020468C5, rtr := false, len := 2, data := { b0 := 0xAA, b1 := 0x55 }, ts := 0 }

/-- The frame of V-L1-5. -/
def strayFrame : RxFrame :=
  { id := 0x03040005, rtr := true, len := 3, data := { b0 := 1, b1 := 2, b2 := 3 }, ts := 0 }

/-- An UPDATE in progress, with `motor` registered, and the block's turn next. -/
def updating (q : List RxFrame) : State := { boundState with reg := [motor], busy := true, rxq := q, agenda := [.block] }

/-- `n` entries, the first of V-L1-6's sixteen. -/
def entries (n : Nat) : List Entry :=
  (List.range n).map fun i => { handle := BitVec.ofNat 8 i, key := 0x02040000#29 + BitVec.ofNat 29 i }

/-- A state in which the transport has settled its next answer. -/
def answering (b : Bool) : State := { boundState with txPlan := [b] }

/-- A state in which the block's next step executes the command. -/
def ready (s : State) (i : Instr) : State := placeCommand (encode i) s

/-! ## WellFormed: what R83 asks of software, an ill-formed command for each check and each format -/

theorem test_wf_update : WellFormed.command { cw := 0x8 } = true ∧
    WellFormed.cwClean { cw := 0xFF00000000000008 } = false ∧
    WellFormed.dataClean { cw := 0x8, data := 1 } = false := by decide
theorem test_wf_encode : WellFormed.command { cw := 0x00001A3020405001 } = true ∧
    WellFormed.cwClean { cw := 0x00001A3020405011 } = false ∧
    WellFormed.cwClean { cw := 0x00101A3020405001 } = false := by decide
theorem test_wf_decode : WellFormed.command { cw := 0x00000001FFFFFFF2 } = true ∧
    WellFormed.cwClean { cw := 0x0000000200000002 } = false := by decide
theorem test_wf_key : WellFormed.command { cw := 0x0000000FFFFFF003 } = true ∧
    WellFormed.cwClean { cw := 0x00703FF020405003 } = false := by decide
theorem test_wf_match : WellFormed.command { cw := 0x0000000020468C54, data := 0x1FFFFFFF } = true ∧
    WellFormed.dataClean { cw := 0x0000000020468C54, data := 0x20000000 } = false ∧
    WellFormed.cwClean { cw := 0x8000000020468C54 } = false := by decide
theorem test_wf_bind : WellFormed.command { cw := 0x00000000000FFFF5 } = true ∧
    WellFormed.cwClean { cw := 0x0000000000100005 } = false := by decide
theorem test_wf_register : WellFormed.command { cw := 0x0000000FFFFFFFF6 } = true ∧
    WellFormed.cwClean { cw := 0x0000001000000006 } = false := by decide
theorem test_wf_unregister : WellFormed.command { cw := 0x0000000000000FF7 } = true ∧
    WellFormed.cwClean { cw := 0x0000000000001007 } = false := by decide
theorem test_wf_writePacket : WellFormed.command { cw := 0x00FFFFFFFFFFF009, data := 0xFFFFFFFFFFFFFFFF } = true ∧
    WellFormed.cwClean { cw := 0x0100000000000009 } = false ∧
    WellFormed.cwClean { cw := 0x0000000000000019 } = false := by decide
theorem test_wf_writeRtr : WellFormed.command { cw := 0x00FFFFFFFFFFF00A } = true ∧
    WellFormed.cwClean { cw := 0x010000000000000A } = false ∧
    WellFormed.dataClean { cw := 0x000000000000000A, data := 1 } = false := by decide
theorem test_wf_reserved : WellFormed.command { cw := 0x0 } = true ∧ WellFormed.command { cw := 0xF } = true ∧
    WellFormed.cwClean { cw := 0x10 } = false ∧ WellFormed.dataClean { cw := 0xB, data := 1 } = false := by decide

/-! ## Decoding: words written out from the field tables of R76 to R80, one for each constructor -/

-- Format I: op 3:0, h 11:4, num 19:12, mfr 27:20, type 35:28, api 51:36, len 55:52; each field with its own digits.
theorem test_decode_encode : decode { cw := 0x000ABCD123456001 } = .encode 0xABCD 0x56 0x34 0x12 := by decide
theorem test_decode_decode : decode { cw := 0x00000001555AAAA2 } = .decode 0x1555AAAA := by decide
theorem test_decode_key : decode { cw := 0x0000000123456003 } = .key 0x56 0x34 0x12 := by decide
theorem test_decode_match : decode { cw := 0x00000000204FFC54, data := 0x02040005 } =
    .matchKey 0x0204FFC5 0x02040005 := by decide
theorem test_decode_bind : decode { cw := 0x00000000000AB125 } = .bind 0x12 0xAB := by decide
theorem test_decode_register : decode { cw := 0x0000000123456786 } = .register 0x78 0x56 0x34 0x12 := by decide
theorem test_decode_unregister : decode { cw := 0x0000000000000AB7 } = .unregister 0xAB := by decide
theorem test_decode_update : decode { cw := 0xFFFFFFFFFFFFFFF8, data := 0xFFFFFFFFFFFFFFFF } = .update := by decide
theorem test_decode_writePacket : decode { cw := 0x007ABCD123456009, data := 0x0807060504030201 } =
    .writePacket 0xABCD 0x56 0x34 0x12 7
      { b0 := 1, b1 := 2, b2 := 3, b3 := 4, b4 := 5, b5 := 6, b6 := 7, b7 := 8 } := by decide
theorem test_decode_writeRtr : decode { cw := 0x008ABCD12345600A } = .writeRtr 0xABCD 0x56 0x34 0x12 8 := by decide
theorem test_decode_reserved0 : decode { cw := 0x0 } = .reserved0 := by decide
theorem test_decode_reservedB : decode { cw := 0xB } = .reservedB := by decide
theorem test_decode_reservedC : decode { cw := 0xC } = .reservedC := by decide
theorem test_decode_reservedD : decode { cw := 0xD } = .reservedD := by decide
theorem test_decode_reservedE : decode { cw := 0xE } = .reservedE := by decide
theorem test_decode_reservedF : decode { cw := 0xFFFFFFFFFFFFFFFF } = .reservedF := by decide

/-- The example of R88, and its payload as a list of bytes. -/
theorem test_encode_writePacket :
    encode (.writePacket 0x10 5 4 2 2 (payloadOfBytes [0xAA, 0x55])) =
      { cw := 0x0020010020405009, data := 0x00000000000055AA } := by decide

/-- The words of V-L1-2 row 3 and of R141's example. -/
theorem test_encode_match_register :
    encode (.matchKey 0x020468C5 0x02040005) = { cw := 0x0000000020468C54, data := 0x0000000002040005 } ∧
    encode (.register 1 5 4 2) = { cw := 0x0000000020405016 } := by decide

/-- A word of the opcode table: `DATA` lies above `CW` (log entry 16). -/
theorem test_decodeTableWord :
    decodeTableWord 64 0x0000000020405016 = some (.register 1 5 4 2) ∧
    decodeTableWord 8 0xFF15 = some (.bind 1 0) ∧
    decodeTableWord 128 0x00000000020400050000000020468C54 = some (.matchKey 0x020468C5 0x02040005) := by decide

/-! ## One command each -/

/-- V-L1-1 row 1; V-L2-CODEC row 1, where every operand but `mfr` is truncated. -/
theorem test_encode_result :
    resultsOf (.encode 0x1A3 5 4 2) State.reset = some [{ status := .ok, id := 0x020468C5 }] ∧
    resultsOf (.encode 0x7A3 0x45 4 0x22) State.reset = some [{ status := .ok, id := 0x0204E8C5 }] := by decide

/-- V-L1-1 rows 2 and 10. -/
theorem test_decode_result :
    resultsOf (.decode 0x020468C5) State.reset =
      some [{ status := .ok, dtype := 2, mfr := 4, api := 0x1A3, idx := 3, num := 5 }] ∧
    resultsOf (.decode 0x1555AAAA) State.reset =
      some [{ status := .ok, dtype := 21, mfr := 85, api := 0x2AA, idx := 10, num := 42 }] := by decide

/-- V-L2-CODEC rows 11 and 12. -/
theorem test_key_result :
    resultsOf (.key 5 4 2) State.reset = some [{ status := .ok, id := 0x02040005 }] ∧
    resultsOf (.key 0xFF 0xFF 0xFF) State.reset = some [{ status := .ok, id := 0x1FFF003F }] := by decide

/-- V-L1-2 row 3; V-L2-FILTER row 5, the identifier equal to a key with an API-id bit. -/
theorem test_match_result :
    resultsOf (.matchKey 0x020468C5 0x02040005) State.reset = some [{ status := .ok, hit := true, sub := 0x1A3 }] ∧
    resultsOf (.matchKey 0x02040045 0x02040045) State.reset = some [{ status := .ok, hit := false, sub := 0 }] := by
  decide

/-- R140's example, and a second BIND. -/
theorem test_bind :
    nextOf (exec (.bind 1 2) State.reset) =
      some { State.reset with bound := true, ctrl := 1, irq := 2, results := [{ status := .ok }] } ∧
    nextOf (exec (.bind 3 4) boundState) = some { boundState with results := [{ status := .alreadyBound }] } := by
  decide

/-- V-L1-4 row 2; V-L1-6 row 17. -/
theorem test_register :
    (nextOf (exec (.register 1 5 4 2) State.reset)).map State.reg = some [motor] ∧
    nextOf (exec (.register 0x10 0x10 4 2) { State.reset with reg := entries 16 }) =
      some { State.reset with reg := entries 16, results := [{ status := .capacityExceeded }] } := by decide

/-- R143: every entry of the handle goes, the rest keep their order. -/
theorem test_unregister :
    (nextOf (exec (.unregister 1) { State.reset with reg := [motor, ⟨2, 0⟩, ⟨1, 0⟩, ⟨3, 1⟩] })).map State.reg =
      some [⟨2, 0⟩, ⟨3, 1⟩] := by decide

/-- V-L1-8b; and the start step of a bound block returns no result. -/
theorem test_update_start :
    nextOf (exec .update State.reset) = some { State.reset with results := [{ status := .notBound }] } ∧
    nextOf (exec .update boundState) = some { boundState with busy := true } := by decide

/-- R180's example, accepted; and a length of 9 with an answer settled, which stays settled. -/
theorem test_writePacket :
    nextOf (exec (.writePacket 0x10 5 4 2 2 { b0 := 0xAA, b1 := 0x55 }) (answering true)) =
      some { boundState with
        txlog := [{ id := 0x02040405, rtr := false, len := 2, data := { b0 := 0xAA, b1 := 0x55 } }]
        results := [{ status := .ok }] } ∧
    nextOf (exec (.writePacket 0x10 5 4 2 9 {}) (answering true)) =
      some { answering true with results := [{ status := .lengthInvalid }] } := by decide

/-- R181's example, accepted and rejected. -/
theorem test_writeRtr :
    nextOf (exec (.writeRtr 0x11 5 4 2 4) (answering true)) =
      some { boundState with
        txlog := [{ id := 0x02040445, rtr := true, len := 4, data := {} }], results := [{ status := .ok }] } ∧
    nextOf (exec (.writeRtr 0x11 5 4 2 4) (answering false)) =
      some { boundState with results := [{ status := .transportRejected }] } := by decide

/-- R203: an unbound block tests `bound` before the length. -/
theorem test_transmit_order : resultsOf (.writeRtr 0 0 0 0 9) State.reset = some [{ status := .notBound }] := by decide

/-- R82: each reserved opcode. -/
theorem test_reserved : ∀ i ∈ [Instr.reserved0, .reservedB, .reservedC, .reservedD, .reservedE, .reservedF],
    resultsOf i boundState = some [{ status := .illegalOp }] := by decide

/-- R85's codes. -/
theorem test_status_codes :
    [Status.ok, .capacityExceeded, .notBound, .transportRejected, .lengthInvalid, .illegalOp, .alreadyBound].map
      statusCode = [0, 1, 2, 3, 4, 5, 6] := by decide

/-! ## One step each -/

/-- V-L1-3 row 5: the dispatch step, match path. -/
theorem test_dispatch_match :
    (nextOf (step (updating [motorFrame]))).map State.evlog =
      some [.matched 1 0x1A3 false 2 { b0 := 0xAA, b1 := 0x55 }] := by decide

/-- V-L1-5 row 3: the dispatch step, unknown path. -/
theorem test_dispatch_unknown :
    (nextOf (step (updating [strayFrame]))).map State.evlog =
      some [.unknown 0x03040005 3 { b0 := 1, b1 := 2, b2 := 3 }] := by decide

/-- V-L1-4: the first registered of two entries with one key. -/
theorem test_dispatch_tie : firstMatch [motor, ⟨2, 0x02040005⟩] 0x02040045 = some motor := by decide

/-- V-L1-8a: the end step. -/
theorem test_end_step :
    (nextOf (step (updating []))).map (fun t => (t.busy, t.evlog, t.results)) =
      some (false, [], [{ status := .ok }]) := by decide

/-- With no turn fixed and no delay left, the open turn of an UPDATE is the block's (R169): the end step, or the dispatch
step where a frame waits. -/
theorem test_update_step_due :
    (nextOf (step { updating [] with agenda := [] })).map (fun t => (t.busy, t.results)) =
      some (false, [{ status := .ok }]) ∧
    (nextOf (step { updating [strayFrame] with agenda := [] })).map State.evlog =
      some [.unknown 0x03040005 3 { b0 := 1, b1 := 2, b2 := 3 }] := by decide

/-- A command issued during an UPDATE waits (R223). -/
theorem test_issue_waits :
    (nextOf (step { updating [] with agenda := [.issue { cw := 0x8 }] })).map (fun t => (t.port, t.results)) =
      some ([{ cw := 0x8 }], []) := by decide

/-- An arrival at an unbound block is no arrival (R170). -/
theorem test_arrival_unbound :
    (nextOf (step { State.reset with agenda := [.arrive motorFrame] })).map (fun t => t.rxq.length) = some 0 := by
  decide

/-- R220: a reset in the middle of an UPDATE discards the buffered frames and keeps the histories. -/
theorem test_reset :
    (nextOf (step { updating [motorFrame] with agenda := [.reset], evlog := [.unknown 0 0 {}] })).map
      (fun t => (t.reg, t.busy, t.bound, t.rxq.length, t.evlog)) = some ([], false, false, 0, [.unknown 0 0 {}]) := by
  decide

/-- The host's placing of a word: the next step after reset runs `REGISTER h=1, num=5, mfr=4, type=2`. -/
theorem test_withFetchWord :
    (nextOf (step (State.reset.withFetchWord 64 0x0000000020405016))).map (fun t => (t.reg, t.port)) =
      some ([motor], []) := by decide

/-! ## Witnesses: the hypotheses of each statement can be met together -/

theorem witness_ReservedBitsIgnored :
    (0xFFFFFFFFFFFFFFF8 : Word64) &&& WellFormed.cwMask (opOf { cw := 0xFFFFFFFFFFFFFFF8, data := 1 }) =
      0x8 &&& WellFormed.cwMask (opOf { cw := 0xFFFFFFFFFFFFFFF8, data := 1 }) ∧
    (1 : Word64) &&& WellFormed.dataMask (opOf { cw := 0xFFFFFFFFFFFFFFF8, data := 1 }) =
      0 &&& WellFormed.dataMask (opOf { cw := 0xFFFFFFFFFFFFFFF8, data := 1 }) := by decide

theorem witness_DecAfterEncRecovers : OperandsInRange 1023 63 31 ∧ OperandsInRange 0 0 0 := by
  unfold OperandsInRange; decide

theorem witness_EncAfterDecRecovers : OperandsInRange 0x1A3 5 2 ∧ enc 0x1A3 5 4 2 = 0x020468C5 := by
  unfold OperandsInRange; decide

theorem witness_FilterMasksSeparate :
    ∀ n < 29, n < 6 ∨ 16 ≤ n → (0x020468C5#29).getLsbD n = (0x02040005#29).getLsbD n := by decide

theorem witness_FilterMasksSeparate_sub :
    ∀ n, 6 ≤ n → n < 16 → (0x020468C5#29).getLsbD n = (0x000068C0#29).getLsbD n := by
  intro n h6 h16; interval_cases n <;> decide

theorem witness_FilterIsCorrect :
    (5#8).extractLsb' 0 6 ≠ (6#8).extractLsb' 0 6 ∧ (4#8) ≠ 5#8 ∧ (2#8).extractLsb' 0 5 ≠ (3#8).extractLsb' 0 5 := by
  decide

theorem witness_KeyWithApiBitsNeverMatches :
    (0x00000040#29).extractLsb' 6 10 ≠ 0 ∧ (0x00008000#29).extractLsb' 6 10 ≠ 0 := by decide

theorem witness_KeyMatchesExactly1024 :
    (0x02040005#29).extractLsb' 6 10 = 0 ∧ (0x02040006#29).extractLsb' 6 10 = 0 ∧ 0x02040006#29 ≠ 0x02040005#29 ∧
    matchesKey 0x0204FFC5 0x02040005 = true ∧ subIndex 0x0204FFC5 = 0x3FF := by decide

theorem witness_EncodeReturnsIdentifier : opOf { cw := 0x00001A3020405001 } = 0x1#4 := by decide
theorem witness_DecodeReturnsFields : opOf { cw := 0xFFFFFFFFFFFFFFF2 } = 0x2#4 := by decide
theorem witness_KeyReturnsKey : opOf { cw := 0x00703FF020405003 } = 0x3#4 := by decide
theorem witness_MatchReturnsHit : opOf { cw := 0x0000000020468C54 } = 0x4#4 ∧
    0x0204FFC5#29 &&& 0x1FFF003F#29 = 0x02040005 ∧ 0x020468C6#29 &&& 0x1FFF003F#29 ≠ 0x02040005 ∧
    (0x02040045#29).extractLsb' 6 10 ≠ 0 ∧ (0x02040005#29).extractLsb' 6 10 = 0 := by decide
theorem witness_BindBindsOnce : opOf { cw := 0x0000000000002015 } = 0x5#4 ∧
    State.reset.bound = false ∧ boundState.bound = true := by decide
theorem witness_RegisterAppendsUpToCapacity : opOf { cw := 0x0000000020405016 } = 0x6#4 ∧
    ({ State.reset with reg := entries 15 } : State).reg.length ≠ 16 ∧
    ({ State.reset with reg := entries 16 } : State).reg.length = 16 := by decide
theorem witness_UnregisterRemovesHandle : opOf { cw := 0x0000000000000017 } = 0x7#4 := by decide
theorem witness_UpdateStarts : opOf { cw := 0xFFFFFFFFFFFFFFF8 } = 0x8#4 ∧ boundState.bound = true ∧
    State.reset.bound = false := by decide
theorem witness_WritePacketOffersFrame : opOf { cw := 0x0020010020405009 } = 0x9#4 ∧
    ((answering true).bound = true ∧ 8#4 ≤ 8#4 ∧ txAnswer (answering true) = true) ∧
    ((answering false).bound = true ∧ 0#4 ≤ 8#4 ∧ txAnswer (answering false) = false) ∧
    (boundState.bound = true ∧ 8#4 < 9#4) ∧ State.reset.bound = false := by decide
theorem witness_WriteRtrOffersFrame : opOf { cw := 0x004001102040500A } = 0xA#4 ∧
    ((answering true).bound = true ∧ 8#4 ≤ 8#4 ∧ txAnswer (answering true) = true) ∧
    ((answering false).bound = true ∧ 0#4 ≤ 8#4 ∧ txAnswer (answering false) = false) ∧
    (boundState.bound = true ∧ 8#4 < 9#4) ∧ State.reset.bound = false := by decide
theorem witness_ReservedOpcodesAreIllegal :
    opOf { cw := 0x0 } = 0x0#4 ∧ opOf { cw := 0xB } = 0xB#4 ∧ opOf { cw := 0xC } = 0xC#4 ∧ opOf { cw := 0xD } = 0xD#4 ∧
    opOf { cw := 0xE } = 0xE#4 ∧ opOf { cw := 0xFFFFFFFFFFFFFFFF } = 0xF#4 := by decide
theorem witness_OfferFollowsAnswer : (answering true).txPlan = true :: [] ∧ (answering false).txPlan = false :: [] ∧
    boundState.txPlan = [] := by decide

theorem witness_FrameOfStatelessCommands :
    (isPure (.decode 5) = true ∧ nextOf (exec (.decode 0) boundState) = some { boundState with results := [{ status := .ok }] }) ∧
    (isReserved .reservedC = true ∧
      nextOf (exec .reservedC boundState) = some { boundState with results := [{ status := .illegalOp }] }) := by decide
theorem witness_FrameOfStatefulCommands :
    (∃ t, exec (.bind 1 2) State.reset = .next t) ∧ (∃ t, exec (.register 1 5 4 2) boundState = .next t) ∧
    (∃ t, exec (.unregister 1) boundState = .next t) ∧ ∃ t, exec .update boundState = .next t :=
  ⟨⟨_, rfl⟩, ⟨_, rfl⟩, ⟨_, rfl⟩, ⟨_, rfl⟩⟩
theorem witness_FrameOfTransmitCommands :
    (∃ t, exec (.writePacket 0x10 5 4 2 8 {}) (answering true) = .next t) ∧
    ∃ t, exec (.writeRtr 0x11 5 4 2 8) (answering false) = .next t := ⟨⟨_, rfl⟩, ⟨_, rfl⟩⟩

theorem witness_StepRunsDecodedCommand :
    (ready boundState .update).agenda = .block :: [] ∧ (ready boundState .update).busy = false ∧
    (ready boundState .update).port = encode .update :: [] := by decide
theorem witness_StepTakesTurn :
    ({ boundState with agenda := [.issue { cw := 8 }] } : State).agenda = .issue { cw := 8 } :: [] ∧
    ({ answering true with agenda := [.answer false] } : State).agenda = .answer false :: [] ∧
    (({ boundState with agenda := [.block] } : State).agenda = .block :: [] ∧ boundState.busy = false ∧
      boundState.port = []) ∧ State.reset.agenda = [] := ⟨rfl, rfl, ⟨rfl, rfl, rfl⟩, rfl⟩

/-- An UPDATE in progress with nothing to dispatch, no turn fixed, and `d` free turns before the block's is due. -/
def ending (d : Nat) : State := { updating [] with agenda := [], delay := d }

theorem witness_StepTakesTurn_open :
    (State.reset.agenda = [] ∧ State.reset.busy = false) ∧
    ((ending 1).agenda = [] ∧ (ending 1).busy = true ∧ (ending 1).delay = 0 + 1) ∧
    ((ending 0).agenda = [] ∧ (ending 0).busy = true ∧ (ending 0).delay = 0) :=
  ⟨⟨rfl, rfl⟩, ⟨rfl, rfl, rfl⟩, rfl, rfl, rfl⟩
theorem witness_DispatchStepHandsOneEvent :
    ((updating [motorFrame]).agenda = .block :: [] ∧ (updating [motorFrame]).busy = true ∧
      (updating [motorFrame]).rxq = motorFrame :: [] ∧
      firstMatch (updating [motorFrame]).reg motorFrame.id = some motor) ∧
    ((updating [strayFrame]).rxq = strayFrame :: [] ∧
      firstMatch (updating [strayFrame]).reg strayFrame.id = none) := by
  refine ⟨⟨rfl, rfl, rfl, ?_⟩, rfl, ?_⟩ <;> decide
theorem witness_EndStepReturnsOk :
    ((updating []).agenda = .block :: [] ∧ (updating []).busy = true ∧ (updating []).rxq = []) ∧
    ((ending 7).busy = true ∧ (ending 7).rxq = []) := ⟨⟨rfl, rfl, rfl⟩, rfl, rfl⟩

/-- A bound state with `n` frames buffered whose next turn is an arrival. -/
def arriving (n : Nat) : State :=
  { boundState with rxq := List.replicate n motorFrame, agenda := [.arrive motorFrame] }

theorem witness_ArrivalAppendsFrame :
    ((arriving (Config.rxqDepth - 1)).bound = true ∧ (arriving (Config.rxqDepth - 1)).rxq.length < Config.rxqDepth) ∧
    (State.reset.bound = false) ∧ Config.rxqDepth ≤ (arriving Config.rxqDepth).rxq.length := by
  refine ⟨⟨rfl, ?_⟩, rfl, ?_⟩ <;> simp [arriving, Config.rxqDepth]
theorem witness_ResetValues : ({ updating [motorFrame] with agenda := [.reset] } : State).agenda = .reset :: [] := rfl

theorem witness_FirstRegisteredWins :
    (⟨2, 0x02040005⟩ : Entry).key = motor.key ∧ matchesKey 0x020468C5 motor.key = true ∧
    ∀ p ∈ [(⟨3, 0x02040006⟩ : Entry)], p.key ≠ motor.key := by decide
theorem witness_OrderIrrelevantWithUniqueKeys :
    KeysUnique [motor, ⟨2, 0x02040006⟩] ∧ [motor, ⟨2, 0x02040006⟩].Perm [⟨2, 0x02040006⟩, motor] := by
  unfold KeysUnique; decide
theorem witness_UnregisterKeepsOrder :
    ∃ t, exec (.unregister 1) { State.reset with reg := [motor, ⟨2, 0x02040006⟩] } = .next t := ⟨_, rfl⟩
theorem witness_OnlyIdentifierRoutes : ({ motorFrame with rtr := true, len := 15 } : RxFrame).id = motorFrame.id := rfl
theorem witness_TimestampsAreNotRead :
    ∀ w : BitVec Config.tsW, [{ motorFrame with ts := w }].map withoutTs = (updating [motorFrame]).rxq.map withoutTs :=
  fun _ => rfl

theorem witness_StatusesOfCommands :
    (∃ t, exec (.decode 0) State.reset = .next t) ∧ (∃ t, exec .update boundState = .next t) ∧ (updating []).rxq = [] :=
  ⟨⟨_, rfl⟩, ⟨_, rfl⟩, rfl⟩
theorem witness_FailureWritesNothing :
    ∃ t, exec .update State.reset = .next t ∧ t.results = State.reset.results ++ [{ status := .notBound }] ∧
      (Status.notBound ≠ .ok) := ⟨_, rfl, rfl, by decide⟩
theorem witness_PureCommandsReadNoState : isPure (.matchKey 0 0) = true ∧ isPure (.encode 0 0 0 0) = true := by decide
theorem witness_RegistryAndTransmitAreIndependent :
    (Instr.unregister 1 = .register 1 5 4 2 ∨ Instr.unregister 1 = .unregister 1) ∧
    (Instr.writeRtr 0 0 0 0 8 = .writePacket 0 0 0 0 8 {} ∨ Instr.writeRtr 0 0 0 0 8 = .writeRtr 0 0 0 0 8) :=
  ⟨.inr rfl, .inr rfl⟩
theorem witness_OneEventPerFrame :
    (∃ t, step (updating [motorFrame]) = .next t) ∧ ∃ t, step (ready boundState .update) = .next t :=
  ⟨⟨_, rfl⟩, ⟨_, rfl⟩⟩
theorem witness_OnlyTransmitWritesTxlog :
    ∃ t, step (ready (answering true) (.writeRtr 0x11 5 4 2 4)) = .next t ∧ t.txlog.length = 1 := ⟨_, rfl, rfl⟩
theorem witness_OnlyRegistryCommandsWriteReg :
    ∃ t, step (ready boundState (.register 1 5 4 2)) = .next t ∧ t.reg.length = 1 := ⟨_, rfl, rfl⟩
theorem witness_BindingIsMadeOnce :
    (∃ t, step (ready State.reset (.bind 1 2)) = .next t ∧ State.reset.bound = false ∧ t.bound = true) ∧
    ∃ t, step (ready boundState (.bind 3 4)) = .next t ∧ boundState.bound = true ∧
      (nextTurn (ready boundState (.bind 3 4))).1 ≠ .reset := ⟨⟨_, rfl, rfl, rfl⟩, ⟨_, rfl, rfl, by decide⟩⟩
theorem witness_CommandsWaitWhileBusy :
    ∃ t, step { updating [motorFrame] with port := [{ cw := 8 }] } = .next t ∧ (updating [motorFrame]).busy = true ∧
      (nextTurn (updating [motorFrame])).1 ≠ .reset := ⟨_, rfl, rfl, by decide⟩
theorem witness_HistoriesOnlyGrow : ∃ t, step { updating [motorFrame] with agenda := [.reset] } = .next t := ⟨_, rfl⟩

/-- A state with an UPDATE in progress, a full queue and a full registry that meets the invariants. -/
theorem witness_StepKeepsInvariants :
    StateInv { updating (List.replicate Config.rxqDepth motorFrame) with reg := entries 16 } ∧
    ∃ t, step { updating (List.replicate Config.rxqDepth motorFrame) with reg := entries 16 } = .next t := by
  refine ⟨⟨by decide, by decide, by simp [updating], fun _ => rfl, fun h => absurd h (by decide), by decide⟩, ⟨_, rfl⟩⟩

theorem witness_UpdateDrainsInOrder :
    (updating [motorFrame]).busy = true ∧
    ({ updating [motorFrame] with agenda := [.block, .block, .reset] } : State).agenda =
      List.replicate ((updating [motorFrame]).rxq.length + 1) .block ++ [.reset] := ⟨rfl, rfl⟩

/-- Two frames to dispatch, one of them still to arrive, and three turns of the block. -/
theorem witness_UpdateEndsWhenArrivalsDo :
    (updating [motorFrame]).busy = true ∧
    ({ updating [motorFrame] with agenda := [.block, .arrive strayFrame, .block, .block, .reset] } : State).agenda =
      [.block, .arrive strayFrame, .block, .block] ++ [.reset] ∧
    Turn.reset ∉ [.block, .arrive strayFrame, .block, .block] ∧
    (updating [motorFrame]).rxq.length + arrivals [.block, .arrive strayFrame, .block, .block] <
      blockTurns [.block, .arrive strayFrame, .block, .block] :=
  ⟨rfl, rfl, by simp, by simp [blockTurns, arrivals, updating]⟩

/-- The second clause's state: no turn fixed, a frame to dispatch, and a delay to run out. -/
theorem witness_UpdateEndsWhenArrivalsDo_open :
    ({ ending 3 with rxq := [motorFrame] } : State).busy = true := rfl

end Sys2Proof.Tests
end

namespace Sys2Proof.Machine

/-! ## Proofs for spec/00_scope.md: whose turn a step is -/

/-- With no UPDATE in progress an open turn is the free value, and a new delay is drawn (log entry 3). -/
theorem openTurn_idle (s : State) (hb : s.busy = false) :
    openTurn s = (Config.freeTurn s.draws, { s with delay := Config.freeDelay s.draws, draws := s.draws + 1 }) := by
  simp [openTurn, hb]

/-- While an UPDATE is in progress, an open turn that comes before the block's uses up one of the delay. -/
theorem openTurn_delayed (s : State) (d : Nat) (hb : s.busy = true) (hd : s.delay = d + 1) :
    openTurn s = (Config.freeTurn s.draws, { s with delay := d, draws := s.draws + 1 }) := by
  simp [openTurn, hb, hd]

/-- While an UPDATE is in progress, an open turn with no delay left is the block's (R169, log entry 12). -/
theorem openTurn_due (s : State) (hb : s.busy = true) (hd : s.delay = 0) :
    openTurn s = (.block, { s with delay := Config.freeDelay s.draws, draws := s.draws + 1 }) := by
  simp [openTurn, hb, hd]

/-- A step where the agenda fixes no turn, as `step_of_agenda` says it where one is fixed. -/
theorem step_of_openTurn (s t : State) (u : Turn) (ha : s.agenda = []) (ho : openTurn s = (u, t)) :
    step s = takeTurn u t := by
  simp [step, nextTurn, ha, ho]

/-- Settles O35: a fixed turn is `step_of_agenda`, an open one `step_of_openTurn`, each followed by what that agent's
turn does. -/
theorem stepTakesTurn : Obligations.StepTakesTurn := by
  refine ⟨?issue, ?answer, ?idleBlock, ?openIdle, ?openDelayed, ?openDue⟩
  case issue =>
    intro s c ts ha
    rw [step_of_agenda s _ ts ha, takeTurn, issue]
  case answer =>
    intro s b ts ha
    rw [step_of_agenda s _ ts ha, takeTurn, settleAnswer]
  case idleBlock =>
    intro s ts ha hb hp
    rw [step_of_agenda s _ ts ha, takeTurn]
    exact blockTurn_idle _ hb hp
  case openIdle =>
    intro s ha hb
    exact step_of_openTurn s _ _ ha (openTurn_idle s hb)
  case openDelayed =>
    intro s d ha hb hd
    exact step_of_openTurn s _ _ ha (openTurn_delayed s d hb hd)
  case openDue =>
    intro s ha hb hd
    exact step_of_openTurn s _ _ ha (openTurn_due s hb hd)

end Sys2Proof.Machine

namespace Sys2Proof.Machine

open Sys2Proof.Safety

/-! ## What one step writes of the block's state -/

/-- `i` is the transmit command that offers the frame `f` (R180, R181). -/
def Transmits (i : Instr) (f : TxFrame) : Prop :=
  ∃ (api : BitVec 16) (num mfr type : BitVec 8), f.id = enc api num mfr type ∧
    ((f.rtr = false ∧ i = .writePacket api num mfr type f.len f.data) ∨
     (f.rtr = true ∧ f.data = zeroPayload ∧ i = .writeRtr api num mfr type f.len))

/-- The writes a step can make to R20's eight elements, each with the turn or the command that makes it and the tests it
passed. `step_writes` says that a step makes no other. -/
inductive StepWrites (s t : State) : Prop where
  | nothing (h : BlockUnchanged s t)
  | bind (ctrl irq : BitVec 8) (hacc : accepted s = some (.bind ctrl irq)) (hbound : s.bound = false)
      (h : BlockUnchanged (bindTransport ctrl irq s) t)
  | register (hd num mfr type : BitVec 8) (hacc : accepted s = some (.register hd num mfr type))
      (hroom : s.reg.length ≠ Config.regCap)
      (h : BlockUnchanged (regAppend { handle := hd, key := keyOf num mfr type } s) t)
  | unregister (hd : BitVec 8) (hacc : accepted s = some (.unregister hd)) (h : BlockUnchanged (regRemove hd s) t)
  | startUpdate (hacc : accepted s = some .update) (hbound : s.bound = true)
      (h : BlockUnchanged { s with busy := true } t)
  | send (i : Instr) (f : TxFrame) (hacc : accepted s = some i) (hi : Transmits i f) (hbound : s.bound = true)
      (hlen : f.len ≤ Config.maxLen) (hans : txAnswer (nextTurn s).2 = true)
      (h : BlockUnchanged { s with txlog := s.txlog ++ [f] } t)
  | dispatch (f : RxFrame) (rest : List RxFrame) (hturn : (nextTurn s).1 = .block) (hbusy : s.busy = true)
      (hq : s.rxq = f :: rest) (h : BlockUnchanged (evPush (eventOf s.reg f) { s with rxq := rest }) t)
  | endUpdate (hturn : (nextTurn s).1 = .block) (hbusy : s.busy = true) (hq : s.rxq = [])
      (h : BlockUnchanged { s with busy := false } t)
  | arrive (f : RxFrame) (hturn : (nextTurn s).1 = .arrive f) (hbound : s.bound = true)
      (hroom : s.rxq.length < Config.rxqDepth) (h : BlockUnchanged { s with rxq := s.rxq ++ [f] } t)
  | reset (hturn : (nextTurn s).1 = .reset) (h : BlockUnchanged (resetBlock s) t)

/-- The command the block accepts is the one that has waited longest (R223). -/
theorem accepted_of_port (s : State) (c : Command) (rest : List Command) (ht : (nextTurn s).1 = .block)
    (hb : s.busy = false) (hp : s.port = c :: rest) : accepted s = some (decode c) := by
  simp [accepted, ht, hb, hp]

/-- A transmit command writes nothing of the block's state, or it passes every test, is answered 1 and adds its frame
to `txlog`. -/
theorem transmit_writes (f : TxFrame) (s : State) :
    BlockUnchanged s (transmit f s) ∨
    (s.bound = true ∧ f.len ≤ Config.maxLen ∧ txAnswer s = true ∧
      BlockUnchanged { s with txlog := s.txlog ++ [f] } (transmit f s)) := by
  rcases transmit_cases f s with ⟨_, e⟩ | ⟨_, _, e⟩ | ⟨hb, hl, ha, e⟩ | ⟨_, _, _, e⟩ <;> rw [e]
  · exact .inl (by simp [BlockUnchanged])
  · exact .inl (by simp [BlockUnchanged])
  · exact .inr ⟨hb, hl, ha, by simp [BlockUnchanged]⟩
  · exact .inl (by simp [BlockUnchanged])

/-- A command that transmits writes what a step with it may write. -/
theorem stepWrites_transmit (s u : State) (i : Instr) (f : TxFrame) (hacc : accepted s = some i) (hi : Transmits i f)
    (hu : BlockUnchanged s u) (ha : txAnswer u = txAnswer (nextTurn s).2) : StepWrites s (transmit f u) := by
  obtain ⟨h1, h2, h3, h4, h5, h6, h7, h8⟩ := hu
  rcases transmit_writes f u with h | ⟨hb, hl, hans, h⟩
  · exact .nothing (by simpa [BlockUnchanged, *] using h)
  · exact .send i f hacc hi (h2 ▸ hb) hl (ha ▸ hans) (by simpa [BlockUnchanged, *] using h)

/-- The command accepted in a step writes what that step may write. -/
theorem stepWrites_exec (s t : State) (i : Instr) (rest : List Command) (hacc : accepted s = some i)
    (h : exec i { (nextTurn s).2 with port := rest } = .next t) : StepWrites s t := by
  rcases exec_cases i _ t h with ⟨r, rfl⟩ | ⟨c, q, rfl, hb, rfl⟩ | ⟨hd, n, m, ty, rfl, hl, rfl⟩ | ⟨hd, rfl, rfl⟩ |
    ⟨rfl, hb, rfl⟩ | ⟨api, n, m, ty, len, data, rfl, rfl⟩ | ⟨api, n, m, ty, len, rfl, rfl⟩
  · exact .nothing (by simp [BlockUnchanged])
  · exact .bind c q hacc (by simpa using hb) (by simp [BlockUnchanged])
  · exact .register hd n m ty hacc (by simpa using hl) (by simp [BlockUnchanged])
  · exact .unregister hd hacc (by simp [BlockUnchanged])
  · exact .startUpdate hacc (by simpa using hb) (by simp [BlockUnchanged])
  · exact stepWrites_transmit s _ _ _ hacc ⟨api, n, m, ty, rfl, .inl ⟨rfl, rfl⟩⟩ (by simp [BlockUnchanged]) rfl
  · exact stepWrites_transmit s _ _ _ hacc ⟨api, n, m, ty, rfl, .inr ⟨rfl, rfl, rfl⟩⟩ (by simp [BlockUnchanged]) rfl

/-- Everything a step can write of the block's state. -/
theorem step_writes (s t : State) (h : step s = .next t) : StepWrites s t := by
  rcases step_cases s t h with ⟨ht, hb, rfl⟩ | ⟨_, _, _, rfl⟩ | ⟨c, rest, ht, hb, hp, he⟩ | ⟨c, _, rfl⟩ | ⟨f, ht, rfl⟩ |
    ⟨b, _, rfl⟩ | ⟨ht, rfl⟩
  · rcases updateStep_cases (nextTurn s).2 with ⟨hq, e⟩ | ⟨f, fs, hq, e⟩ <;> rw [e]
    · exact .endUpdate ht hb (by simpa using hq) (by simp [BlockUnchanged, endStep])
    · exact .dispatch f fs ht hb (by simpa using hq) (by simp [BlockUnchanged])
  · exact .nothing (by simp [BlockUnchanged])
  · exact stepWrites_exec s t _ rest (accepted_of_port s c rest ht hb hp) he
  · exact .nothing (by simp [BlockUnchanged])
  · rcases arrive_cases f (nextTurn s).2 with ⟨hb, hl, e⟩ | ⟨_, e⟩ <;> rw [e]
    · exact .arrive f ht (by simpa using hb) (by simpa using hl) (by simp [BlockUnchanged])
    · exact .nothing (by simp [BlockUnchanged])
  · exact .nothing (by simp [BlockUnchanged])
  · exact .reset ht (by simp [BlockUnchanged])

/-! ## The invariants of the state (spec/10_state.md) -/

/-- The invariants speak of the block's eight elements alone. -/
theorem stateInv_of_blockUnchanged {s t : State} (h : BlockUnchanged s t) (hi : StateInv s) : StateInv t := by
  obtain ⟨hreg, hbound, hctrl, hirq, hbusy, hrxq, _, htx⟩ := h
  obtain ⟨i1, i2, i3, i4, i5, i6⟩ := hi
  constructor
  · rwa [hreg]
  · rwa [hreg]
  · rwa [hrxq]
  · rwa [hbusy, hbound]
  · rwa [hbound, hrxq, hctrl, hirq]
  · rwa [htx]

/-- A key has no bit of the API id (R22, R102). -/
theorem keyOf_api (num mfr type : BitVec 8) : (keyOf num mfr type).extractLsb' 6 10 = 0 := by
  apply BitVec.eq_of_getLsbD_eq
  intro k hk
  simp [keyOf, enc_getLsbD, hk, show 6 + k < 16 by omega]

/-- What a transmit command offers as a remote frame has no data (R181). -/
theorem Transmits.data_of_rtr {i : Instr} {f : TxFrame} (h : Transmits i f) (hr : f.rtr = true) :
    f.data = zeroPayload := by
  obtain ⟨_, _, _, _, _, ⟨hn, _⟩ | ⟨_, hd, _⟩⟩ := h
  · rw [hr] at hn; cases hn
  · exact hd

/-- Binding keeps the invariants: only an unbound block needs an empty queue (R140). -/
theorem stateInv_bindTransport {s : State} (hi : StateInv s) (ctrl irq : BitVec 8) :
    StateInv (bindTransport ctrl irq s) :=
  { hi with busyIsBound := fun _ => rfl, unboundIsEmpty := fun h => by cases h }

/-- Registering keeps the invariants where the registry has room (R141). -/
theorem stateInv_regAppend {s : State} (hi : StateInv s) (e : Entry) (hroom : s.reg.length ≠ Config.regCap)
    (hkey : e.key.extractLsb' 6 10 = 0) : StateInv (regAppend e s) where
  __ := hi
  regFits := by
    have := hi.regFits
    simp only [regAppend_reg, List.length_append, List.length_singleton]
    omega
  keysHaveNoApi := by
    simp only [regAppend_reg, List.forall_mem_append, List.forall_mem_singleton]
    exact ⟨hi.keysHaveNoApi, hkey⟩

/-- Unregistering keeps the invariants: every entry left was there (R143). -/
theorem stateInv_regRemove {s : State} (hi : StateInv s) (hd : BitVec 8) : StateInv (regRemove hd s) where
  __ := hi
  regFits := (List.length_filter_le ..).trans hi.regFits
  keysHaveNoApi e he := hi.keysHaveNoApi e (List.mem_of_mem_filter he)

/-- The start of an UPDATE keeps the invariants on a bound block (R160). -/
theorem stateInv_startUpdate {s : State} (hi : StateInv s) (hb : s.bound = true) :
    StateInv { s with busy := true } :=
  { hi with busyIsBound := fun _ => hb }

/-- The end of an UPDATE keeps the invariants (R165). -/
theorem stateInv_endUpdate {s : State} (hi : StateInv s) : StateInv { s with busy := false } :=
  { hi with busyIsBound := fun h => by cases h }

/-- Sending a legal frame keeps the invariants (R180, R181). -/
theorem stateInv_send {s : State} (hi : StateInv s) (f : TxFrame) (hlen : f.len ≤ Config.maxLen)
    (hdata : f.rtr = true → f.data = zeroPayload) : StateInv { s with txlog := s.txlog ++ [f] } where
  __ := hi
  sentIsLegal := by
    simp only [List.forall_mem_append, List.forall_mem_singleton]
    exact ⟨hi.sentIsLegal, hlen, hdata⟩

/-- A dispatch step keeps the invariants: it shortens a queue that only a bound block has (R161). -/
theorem stateInv_dispatch {s : State} (hi : StateInv s) (f : RxFrame) (rest : List RxFrame) (hq : s.rxq = f :: rest)
    (e : Event) : StateInv (evPush e { s with rxq := rest }) where
  __ := hi
  rxqFits := by
    have := hi.rxqFits
    simp only [hq, List.length_cons] at this
    simp only [evPush_rxq]
    omega
  unboundIsEmpty hb := by
    have := (hi.unboundIsEmpty hb).1
    rw [hq] at this
    cases this

/-- An arrival keeps the invariants: the block is bound and the queue has room (R170). -/
theorem stateInv_arrive {s : State} (hi : StateInv s) (f : RxFrame) (hb : s.bound = true)
    (hroom : s.rxq.length < Config.rxqDepth) : StateInv { s with rxq := s.rxq ++ [f] } where
  __ := hi
  rxqFits := by
    simp only [List.length_append, List.length_singleton]
    omega
  unboundIsEmpty hn := by
    rw [hb] at hn
    cases hn

/-- A reset meets the invariants: all but the transmit history is as at power-on (R36, R220). -/
theorem stateInv_resetBlock {s : State} (hi : StateInv s) : StateInv (resetBlock s) where
  regFits := by simp
  keysHaveNoApi := by simp
  rxqFits := by simp
  busyIsBound := by simp
  unboundIsEmpty := by simp
  sentIsLegal := hi.sentIsLegal

/-- Settles O58: each of the writes a step can make keeps the invariants. -/
theorem stepKeepsInvariants : Obligations.StepKeepsInvariants := by
  intro s t hi hstep
  cases step_writes s t hstep with
  | nothing h => exact stateInv_of_blockUnchanged h hi
  | bind c q _ _ h => exact stateInv_of_blockUnchanged h (stateInv_bindTransport hi c q)
  | register hd n m ty _ hroom h =>
    exact stateInv_of_blockUnchanged h (stateInv_regAppend hi _ hroom (keyOf_api n m ty))
  | unregister hd _ h => exact stateInv_of_blockUnchanged h (stateInv_regRemove hi hd)
  | startUpdate _ hb h => exact stateInv_of_blockUnchanged h (stateInv_startUpdate hi hb)
  | send i f _ hf _ hl _ h => exact stateInv_of_blockUnchanged h (stateInv_send hi f hl hf.data_of_rtr)
  | dispatch f rest _ _ hq h => exact stateInv_of_blockUnchanged h (stateInv_dispatch hi f rest hq _)
  | endUpdate _ _ _ h => exact stateInv_of_blockUnchanged h (stateInv_endUpdate hi)
  | arrive f _ hb hroom h => exact stateInv_of_blockUnchanged h (stateInv_arrive hi f hb hroom)
  | reset _ h => exact stateInv_of_blockUnchanged h (stateInv_resetBlock hi)

/-- Settles O57: every element bounded is empty at power-on, and the block is neither bound nor busy. -/
theorem powerOnMeetsInvariants : Obligations.PowerOnMeetsInvariants where
  regFits := Nat.zero_le _
  keysHaveNoApi := by simp [State.reset]
  rxqFits := Nat.zero_le _
  busyIsBound h := by cases h
  unboundIsEmpty _ := ⟨rfl, rfl, rfl⟩
  sentIsLegal := by simp [State.reset]

/-- Settles O39: the power-on values by computation, and a reset turn is `resetBlock`. -/
theorem resetValues : Obligations.ResetValues := by
  refine ⟨⟨rfl, rfl, rfl, rfl, rfl, rfl, rfl, rfl⟩, fun s ts ha => ?_⟩
  exact ⟨_, by rw [step_of_agenda s _ ts ha, takeTurn], by simp⟩

/-! ## Which steps write an element (spec/10_state.md) -/

/-- Settles O51: of the writes a step can make, only the dispatch of a frame writes `evlog`. -/
theorem oneEventPerFrame : Obligations.OneEventPerFrame := by
  intro s t hstep
  cases step_writes s t hstep with
  | dispatch f rest hturn hbusy hq h =>
    obtain ⟨_, _, _, _, _, hrxq, hev, _⟩ := h
    exact .inr ⟨hturn, hbusy, f, rest, hq, hrxq, hev⟩
  | arrive f hturn _ _ h =>
    obtain ⟨_, _, _, _, _, hrxq, hev, _⟩ := h
    exact .inl ⟨hev, .inr (.inl ⟨f, hturn, hrxq⟩)⟩
  | reset hturn h =>
    obtain ⟨_, _, _, _, _, hrxq, hev, _⟩ := h
    exact .inl ⟨hev, .inr (.inr ⟨hturn, hrxq⟩)⟩
  | nothing h | bind _ _ _ _ h | register _ _ _ _ _ _ h | unregister _ _ h | startUpdate _ _ h
  | send _ _ _ _ _ _ _ h | endUpdate _ _ _ h =>
    obtain ⟨_, _, _, _, _, hrxq, hev, _⟩ := h
    exact .inl ⟨hev, .inl hrxq⟩

/-- Settles O52: of the writes a step can make, only an accepted offer writes `txlog`. -/
theorem onlyTransmitWritesTxlog : Obligations.OnlyTransmitWritesTxlog := by
  intro s t hstep
  cases step_writes s t hstep with
  | send i f hacc hi hbound hlen hans h =>
    obtain ⟨_, _, _, _, _, _, _, htx⟩ := h
    obtain ⟨api, n, m, ty, hid, hcmd⟩ := hi
    refine .inr ⟨f, htx, hbound, hlen, hans, api, n, m, ty, hid, ?_⟩
    rcases hcmd with ⟨hr, rfl⟩ | ⟨hr, hd, rfl⟩
    · exact .inl ⟨f.data, hr, rfl, hacc⟩
    · exact .inr ⟨hr, hd, hacc⟩
  | nothing h | bind _ _ _ _ h | register _ _ _ _ _ _ h | unregister _ _ h | startUpdate _ _ h
  | dispatch _ _ _ _ _ h | endUpdate _ _ _ h | arrive _ _ _ _ h | reset _ h =>
    obtain ⟨_, _, _, _, _, _, _, htx⟩ := h
    exact .inl htx

/-- Settles O53: of the writes a step can make, only REGISTER, UNREGISTER and a reset write `reg`. -/
theorem onlyRegistryCommandsWriteReg : Obligations.OnlyRegistryCommandsWriteReg := by
  intro s t hstep
  cases step_writes s t hstep with
  | register hd n m ty hacc _ h =>
    obtain ⟨hreg, _⟩ := h
    exact .inr (.inr (.inl ⟨hd, n, m, ty, hacc, hreg⟩))
  | unregister hd hacc h =>
    obtain ⟨hreg, _⟩ := h
    exact .inr (.inr (.inr ⟨hd, hacc, hreg⟩))
  | reset hturn h =>
    obtain ⟨hreg, _⟩ := h
    exact .inr (.inl ⟨hturn, hreg⟩)
  | nothing h | bind _ _ _ _ h | startUpdate _ _ h | send _ _ _ _ _ _ _ h | dispatch _ _ _ _ _ h
  | endUpdate _ _ _ h | arrive _ _ _ _ h =>
    obtain ⟨hreg, _⟩ := h
    exact .inl hreg

/-- Settles O54: of the writes a step can make, only BIND on an unbound block and a reset write the binding. -/
theorem bindingIsMadeOnce : Obligations.BindingIsMadeOnce := by
  intro s t hstep
  cases step_writes s t hstep with
  | bind c q hacc hbound h =>
    obtain ⟨_, _, hctrl, hirq, _⟩ := h
    refine ⟨fun hb => ?_, fun _ _ => ?_⟩
    · rw [hbound] at hb; cases hb
    · rw [hctrl, hirq]; exact hacc
  | reset hturn h =>
    obtain ⟨_, hbound, _⟩ := h
    refine ⟨fun _ hn => absurd hturn hn, fun _ hb => ?_⟩
    rw [hbound] at hb; cases hb
  | nothing h | register _ _ _ _ _ _ h | unregister _ _ h | startUpdate _ _ h | send _ _ _ _ _ _ _ h
  | dispatch _ _ _ _ _ h | endUpdate _ _ _ h | arrive _ _ _ _ h =>
    obtain ⟨_, hbound, hctrl, hirq, _⟩ := h
    refine ⟨fun hb _ => ⟨hbound.trans hb, hctrl, hirq⟩, fun hn hb => ?_⟩
    rw [hbound] at hb
    exact absurd (hn.symm.trans hb) (by decide)

/-! ## The histories (R30, R31, R58) -/

/-- A transmit command takes back no result: it returns one. -/
theorem transmit_results_prefix (f : TxFrame) (s : State) : s.results <+: (transmit f s).results := by
  rcases transmit_cases f s with ⟨_, e⟩ | ⟨_, _, e⟩ | ⟨_, _, _, e⟩ | ⟨_, _, _, e⟩ <;> rw [e] <;> simp

/-- A command takes back no result: it returns one, or it starts an UPDATE. -/
theorem exec_results_prefix (i : Instr) (s t : State) (h : exec i s = .next t) : s.results <+: t.results := by
  rcases exec_cases i s t h with ⟨_, rfl⟩ | ⟨_, _, _, _, rfl⟩ | ⟨_, _, _, _, _, _, rfl⟩ | ⟨_, _, rfl⟩ |
    ⟨_, _, rfl⟩ | ⟨_, _, _, _, _, _, _, rfl⟩ | ⟨_, _, _, _, _, _, rfl⟩
  · exact List.prefix_append ..
  · exact List.prefix_append ..
  · exact List.prefix_append ..
  · exact List.prefix_append ..
  · exact List.prefix_rfl
  · exact transmit_results_prefix ..
  · exact transmit_results_prefix ..

/-- A step takes back no result. -/
theorem step_results_prefix (s t : State) (h : step s = .next t) : s.results <+: t.results := by
  rcases step_cases s t h with ⟨_, _, rfl⟩ | ⟨_, _, _, rfl⟩ | ⟨c, rest, _, _, _, he⟩ | ⟨c, _, rfl⟩ | ⟨f, _, rfl⟩ |
    ⟨b, _, rfl⟩ | ⟨_, rfl⟩
  · rcases updateStep_cases (nextTurn s).2 with ⟨_, e⟩ | ⟨f, fs, _, e⟩ <;> rw [e] <;> simp [endStep]
  · simp
  · simpa using exec_results_prefix _ _ t he
  · simp
  · simp
  · simp
  · simp

/-- Settles O56: `evlog` grows by a dispatch and `txlog` by a send, and no other write touches them; the results are
`step_results_prefix`. -/
theorem historiesOnlyGrow : Obligations.HistoriesOnlyGrow := by
  intro s t hstep
  have hev : s.evlog <+: t.evlog := by
    rcases oneEventPerFrame s t hstep with ⟨h, _⟩ | ⟨_, _, f, _, _, _, h⟩ <;> rw [h]
    exact List.prefix_append ..
  have htx : s.txlog <+: t.txlog := by
    rcases onlyTransmitWritesTxlog s t hstep with h | ⟨f, h, _⟩ <;> rw [h]
    exact List.prefix_append ..
  exact ⟨hev, htx, step_results_prefix s t hstep⟩

/-! ## The order of the registry (R24, R144, R162) -/

/-- The first match is an entry of the registry, and its key matches (R162). -/
theorem mem_and_matchesKey_of_firstMatch {reg : List Entry} {id : Ident} {e : Entry} (h : firstMatch reg id = some e) :
    e ∈ reg ∧ matchesKey id e.key = true := by
  rw [firstMatch] at h
  exact ⟨List.mem_of_find?_eq_some h, by simpa using List.find?_some h⟩

/-- Where keys are unique, the first match is the only entry whose key matches. -/
theorem firstMatch_eq_some_iff_of_keysUnique {reg : List Entry} (hu : KeysUnique reg) (id : Ident) (e : Entry) :
    firstMatch reg id = some e ↔ e ∈ reg ∧ matchesKey id e.key = true := by
  refine ⟨mem_and_matchesKey_of_firstMatch, ?_⟩
  rintro ⟨hmem, hmatch⟩
  cases h : firstMatch reg id with
  | none => exact absurd hmatch (List.find?_eq_none.mp h e hmem)
  | some w =>
    obtain ⟨hmem', hmatch'⟩ := mem_and_matchesKey_of_firstMatch h
    simp only [matchesKey, beq_iff_eq] at hmatch hmatch'
    have hkey : w.key = e.key := hmatch'.symm.trans hmatch
    rw [List.inj_on_of_nodup_map hu hmem' hmem hkey]

/-- Settles O42: which entry is the only match does not depend on the order. -/
theorem orderIrrelevantWithUniqueKeys : Obligations.OrderIrrelevantWithUniqueKeys := by
  intro reg reg' id hu hperm
  have hu' : KeysUnique reg' := (hperm.map Entry.key).nodup_iff.mp hu
  apply Option.ext
  intro e
  rw [firstMatch_eq_some_iff_of_keysUnique hu, firstMatch_eq_some_iff_of_keysUnique hu', hperm.mem_iff]

end Sys2Proof.Machine

namespace Sys2Proof.Machine

open Sys2Proof.Safety

/-! ## Proofs for spec/20_memory.md: the payload in DATA (R53) -/

/-- Bit `k` of `DATA` is a bit of the payload byte in which it lies (R53). -/
theorem dataOfPayload_getLsbD (p : Payload) (k : Nat) (hk : k < 64) :
    (dataOfPayload p).getLsbD k =
      if k < 8 then p.b0.getLsbD k
      else if k < 16 then p.b1.getLsbD (k - 8)
      else if k < 24 then p.b2.getLsbD (k - 16)
      else if k < 32 then p.b3.getLsbD (k - 24)
      else if k < 40 then p.b4.getLsbD (k - 32)
      else if k < 48 then p.b5.getLsbD (k - 40)
      else if k < 56 then p.b6.getLsbD (k - 48)
      else p.b7.getLsbD (k - 56) := by
  simp only [dataOfPayload, BitVec.getLsbD_or, BitVec.getLsbD_shiftLeft, BitVec.getLsbD_setWidth, hk, decide_true,
    Bool.true_and]
  split_ifs
  all_goals simp (disch := omega) [BitVec.getLsbD_of_ge, decide_eq_true, decide_eq_false]

/-- Bit `k` of a word is bit `k - o` of the byte that starts at bit `o`, where it lies in that byte. -/
theorem extractByte_getLsbD_sub (d : Word64) {o k : Nat} (hlo : o ≤ k) (hhi : k < o + 8) :
    (d.extractLsb' o 8).getLsbD (k - o) = d.getLsbD k := by
  simp [Nat.add_sub_cancel' hlo, show k - o < 8 by omega]

/-- Packing the payload read from `DATA` gives `DATA` back (R53). -/
theorem dataOfPayload_payloadOfData (d : Word64) : dataOfPayload (payloadOfData d) = d := by
  apply BitVec.eq_of_getLsbD_eq
  intro k hk
  rw [dataOfPayload_getLsbD _ k hk]
  simp only [payloadOfData]
  split_ifs
  · exact extractByte_getLsbD_sub d (Nat.zero_le k) (by omega)
  all_goals exact extractByte_getLsbD_sub d (by omega) (by omega)

/-- Settles O6, bit by bit. -/
theorem payloadPacking : Obligations.PayloadPacking := by
  refine ⟨dataOfPayload_payloadOfData, fun p => ⟨?_, ?_, ?_, ?_, ?_, ?_, ?_, ?_⟩⟩
  all_goals
    apply BitVec.eq_of_getLsbD_eq
    intro k hk
    rw [BitVec.getLsbD_extractLsb', dataOfPayload_getLsbD p _ (by omega)]
    simp (disch := omega) only [hk, if_pos, if_neg, if_true, decide_true, Bool.true_and, Nat.zero_add,
      Nat.add_sub_cancel_left]

/-! ## Proofs for spec/20_memory.md: the heartbeat (R59, R90) -/

/-- The heartbeat without its API id (R59, R73). -/
theorem heartbeatId_and_matchMask : Config.heartbeatId &&& matchMask = 0x01010000 := by decide

/-- Settles O18: a key is matched where it is the masked heartbeat. -/
theorem heartbeatKey : Obligations.HeartbeatKey := by
  refine ⟨by decide, fun k => ?_⟩
  rw [matchesKey, heartbeatId_and_matchMask, beq_iff_eq, eq_comm]

/-! ## Proofs for spec/20_memory.md: commands that write no state (R58, R82) -/

/-- A pure or reserved command returns a result and does nothing else. -/
theorem exec_stateless {i : Instr} {s t : State} (hi : isPure i = true ∨ isReserved i = true)
    (h : exec i s = .next t) : ∃ r, t = result r s := by
  rcases exec_cases i s t h with hr | ⟨_, _, rfl, _⟩ | ⟨_, _, _, _, rfl, _⟩ | ⟨_, rfl, _⟩ | ⟨rfl, _⟩ |
    ⟨_, _, _, _, _, _, rfl, _⟩ | ⟨_, _, _, _, _, rfl, _⟩
  · exact hr
  all_goals simp [isPure, isReserved] at hi

/-- Settles O31: `result` writes the results alone. -/
theorem frameOfStatelessCommands : Obligations.FrameOfStatelessCommands := by
  intro i s t hi h
  obtain ⟨r, rfl⟩ := exec_stateless hi h
  exact ⟨by simp [BlockUnchanged], by simp [AgentsUnchanged]⟩

/-! ## Proofs for spec/20_memory.md: the block's turn (R63, R223) -/

/-- Settles O34: the agenda gives the block the turn, and the block accepts the first waiting command. -/
theorem stepRunsDecodedCommand : Obligations.StepRunsDecodedCommand := by
  intro s c cs ts ha hb hp
  rw [step_of_agenda s .block ts ha, takeTurn]
  exact blockTurn_accepts _ c cs hb hp

/-! ## Proofs for spec/20_memory.md: a step while an UPDATE is in progress (R27, R223) -/

/-- Everything a step can be while an UPDATE is in progress: a part of the UPDATE, or another agent's turn; the block
accepts no command. -/
theorem step_while_busy (s : State) (hb : s.busy = true) :
    ((nextTurn s).1 = .block ∧ step s = .next (updateStep (nextTurn s).2)) ∨
    (∃ c, (nextTurn s).1 = .issue c ∧ step s = .next (issue c (nextTurn s).2)) ∨
    (∃ f, (nextTurn s).1 = .arrive f ∧ step s = .next (arrive f (nextTurn s).2)) ∨
    (∃ b, (nextTurn s).1 = .answer b ∧ step s = .next (settleAnswer b (nextTurn s).2)) ∨
    ((nextTurn s).1 = .reset ∧ step s = .next (resetBlock (nextTurn s).2)) := by
  rw [step]
  cases (nextTurn s).1 with
  | block => exact .inl ⟨rfl, blockTurn_busy _ (by simpa using hb)⟩
  | issue c => exact .inr (.inl ⟨c, rfl, rfl⟩)
  | arrive f => exact .inr (.inr (.inl ⟨f, rfl, rfl⟩))
  | answer b => exact .inr (.inr (.inr (.inl ⟨b, rfl, rfl⟩)))
  | reset => exact .inr (.inr (.inr (.inr ⟨rfl, rfl⟩)))

/-- Settles O55: neither a part of an UPDATE nor another agent's turn writes what a command would. -/
theorem commandsWaitWhileBusy : Obligations.CommandsWaitWhileBusy := by
  intro s t hb h
  refine ⟨by simp [accepted, hb], ?_⟩
  rcases step_while_busy s hb with ⟨_, e⟩ | ⟨c, _, e⟩ | ⟨f, _, e⟩ | ⟨b, _, e⟩ | ⟨ht, e⟩ <;>
    rw [e] at h <;> cases h
  · rcases updateStep_cases (nextTurn s).2 with ⟨_, e⟩ | ⟨f, rest, _, e⟩ <;> rw [e] <;> simp [endStep]
  · simp
  · simp
  · simp
  · simp [ht]

/-! ## Proofs for spec/20_memory.md: an UPDATE left alone (R166) -/

/-- A fixed turn of the block with a frame to dispatch (R161). -/
theorem step_dispatch (s : State) (f : RxFrame) (q : List RxFrame) (ts : List Turn) (ha : s.agenda = .block :: ts)
    (hb : s.busy = true) (hq : s.rxq = f :: q) :
    step s = .next (evPush (eventOf s.reg f) { s with agenda := ts, rxq := q }) := by
  have hblock := blockTurn_busy { s with agenda := ts } hb
  have hpop := rxPop_cons { s with agenda := ts } f q hq
  simp only [step_of_agenda s .block ts ha, takeTurn, hblock, updateStep, hpop]

/-- A fixed turn of the block with no frame left to dispatch (R165). -/
theorem step_end (s : State) (ts : List Turn) (ha : s.agenda = .block :: ts) (hb : s.busy = true) (hq : s.rxq = []) :
    step s = .next (endStep { s with agenda := ts }) := by
  have hblock := blockTurn_busy { s with agenda := ts } hb
  have hpop := rxPop_nil { s with agenda := ts } hq
  simp only [step_of_agenda s .block ts ha, takeTurn, hblock, updateStep, hpop]

/-- Settles O59, by induction on the queue: each turn dispatches its head, and the last is the end step. -/
theorem updateDrainsInOrder : Obligations.UpdateDrainsInOrder := by
  intro s ts hb ha
  induction hq : s.rxq generalizing s with
  | nil =>
    rw [hq] at ha
    refine (run_succ 0 s _ (step_end s ts ha hb hq)).trans ?_
    simp [Host.Core.run, endStep, result, hq]
  | cons f q ih =>
    rw [hq] at ha
    refine (run_succ _ s _ (step_dispatch s f q _ ha hb hq)).trans ?_
    refine (ih (evPush (eventOf s.reg f) { s with agenda := _, rxq := q }) hb rfl rfl).trans ?_
    simp [evPush]

/-! ## Proofs for spec/20_memory.md: an UPDATE among the other agents' fixed turns (R65, R169) -/

/-- Within `n` steps the UPDATE in progress in `s` ends, with OK and the registry as it was (R165). -/
def EndsWithin (n : Nat) (s : State) : Prop :=
  ∃ (k : Nat) (t : State), k ≤ n ∧ Host.Core.run Sys2Proof.core k s = .next t ∧
    t.busy = false ∧ t.rxq = [] ∧ t.reg = s.reg ∧ t.results = s.results ++ [{ status := .ok }]

/-- An UPDATE whose end step is next ends within one step and any number more. -/
theorem endsWithin_of_step_end {n : Nat} {s : State} {ts : List Turn} (ha : s.agenda = .block :: ts)
    (hb : s.busy = true) (hq : s.rxq = []) : EndsWithin (n + 1) s :=
  ⟨1, _, by omega, run_succ 0 s _ (step_end s ts ha hb hq), rfl, hq, rfl, rfl⟩

/-- A step that leaves the registry and the results as they were puts the end off by one. -/
theorem endsWithin_of_step {n : Nat} {s u : State} (h : step s = .next u) (hreg : u.reg = s.reg)
    (hres : u.results = s.results) (hu : EndsWithin n u) : EndsWithin (n + 1) s := by
  obtain ⟨k, t, hk, hrun, hbusy, hrxq, htreg, htres⟩ := hu
  exact ⟨k + 1, t, by omega, (run_succ k s u h).trans hrun, hbusy, hrxq, htreg.trans hreg, by rw [htres, hres]⟩

/-- An arrival adds one frame at most. -/
theorem arrive_rxq_length_le (f : RxFrame) (s : State) : (arrive f s).rxq.length ≤ s.rxq.length + 1 := by
  rcases arrive_cases f s with ⟨_, _, e⟩ | ⟨_, e⟩ <;> simp [e]

theorem blockTurns_cons_block (ts : List Turn) : blockTurns (.block :: ts) = blockTurns ts + 1 := by
  simp [blockTurns]

theorem blockTurns_cons_of_ne {t : Turn} (ht : t ≠ .block) (ts : List Turn) :
    blockTurns (t :: ts) = blockTurns ts := by
  simp [blockTurns, ht]

theorem arrivals_cons_arrive (f : RxFrame) (ts : List Turn) : arrivals (.arrive f :: ts) = arrivals ts + 1 := by
  simp [arrivals]

theorem arrivals_cons_block (ts : List Turn) : arrivals (.block :: ts) = arrivals ts := by simp [arrivals]

/-- More turns of the block than frames to dispatch end an UPDATE, by induction on the turns: a turn of the block
takes a frame or is the end step, and another turn adds no more frames than it counts as arrivals. -/
theorem endsWithin_of_blockTurns (s : State) (ts rest : List Turn) (hb : s.busy = true) (ha : s.agenda = ts ++ rest)
    (hr : Turn.reset ∉ ts) (hlt : s.rxq.length + arrivals ts < blockTurns ts) : EndsWithin ts.length s := by
  induction ts generalizing s with
  | nil => exact absurd hlt (Nat.not_lt_zero _)
  | cons t ts ih =>
    have hstep := step_of_agenda s t (ts ++ rest) ha
    obtain ⟨ht, hr'⟩ : t ≠ .reset ∧ .reset ∉ ts := by simpa [eq_comm] using hr
    cases t with
    | block =>
      cases hq : s.rxq with
      | nil => exact endsWithin_of_step_end ha hb hq
      | cons f q =>
        rw [hq, List.length_cons, arrivals_cons_block, blockTurns_cons_block] at hlt
        have hlt' : q.length + arrivals ts < blockTurns ts := by omega
        exact endsWithin_of_step (step_dispatch s f q _ ha hb hq) rfl rfl (ih _ hb rfl hr' hlt')
    | issue c => exact endsWithin_of_step hstep rfl rfl (ih _ hb rfl hr' hlt)
    | answer b => exact endsWithin_of_step hstep rfl rfl (ih _ hb rfl hr' hlt)
    | arrive f =>
      rw [arrivals_cons_arrive, blockTurns_cons_of_ne (by simp)] at hlt
      have hlen := arrive_rxq_length_le f { s with agenda := ts ++ rest }
      exact endsWithin_of_step hstep (by simp) (by simp) (ih _ (by simpa) (by simp) hr' (by dsimp only at hlen; omega))
    | reset => exact absurd rfl ht

/-! ## Proofs for spec/20_memory.md: an UPDATE among any steps of the other agents (R169, log entry 12) -/

/-- An UPDATE in progress in `s` goes on until a reset or its end step is next, or the transport delivers a frame at the
`n`th step or later. -/
def EndsOrDelivers (n : Nat) (s : State) : Prop :=
  ∃ (k : Nat) (t : State), Host.Core.run Sys2Proof.core k s = .next t ∧ StillUpdating k s ∧
    ((nextTurn t).1 = .reset ∨ (t.rxq = [] ∧ step t = .next (endStep (nextTurn t).2)) ∨
      (n ≤ k ∧ delivers t = true))

/-- A step with an UPDATE in progress that does not end it: it delivers a frame, dispatches one, or brings the block's
turn nearer. -/
inductive GoesOn (s u : State) : Prop where
  | delivers (h : delivers s = true)
  | dispatches (h : u.rxq.length < s.rxq.length)
  | nearer (hq : u.rxq.length = s.rxq.length) (h : u.agenda.length + u.delay < s.agenda.length + s.delay)

/-- With an UPDATE in progress the next step is a reset, the end step, or one with which the UPDATE goes on. -/
theorem ends_or_goesOn (s : State) (hb : s.busy = true) :
    (nextTurn s).1 = .reset ∨ (s.rxq = [] ∧ step s = .next (endStep (nextTurn s).2)) ∨
    ∃ u, step s = .next u ∧ u.busy = true ∧ GoesOn s u := by
  have hnear := nextTurn_nearer s hb
  rcases step_while_busy s hb with ⟨_, e⟩ | ⟨c, ht, e⟩ | ⟨f, ht, e⟩ | ⟨b, ht, e⟩ | ⟨ht, _⟩
  · rcases updateStep_cases (nextTurn s).2 with ⟨hq, eu⟩ | ⟨f, rest, hq, eu⟩ <;> rw [eu] at e <;>
      rw [nextTurn_rxq] at hq
    · exact .inr (.inl ⟨hq, e⟩)
    · exact .inr (.inr ⟨_, e, by simpa, .dispatches (by simp [hq])⟩)
  · have := hnear (by simp [ht])
    exact .inr (.inr ⟨_, e, by simpa, .nearer (by simp) (by simp; omega)⟩)
  · refine .inr (.inr ⟨_, e, by simpa, ?_⟩)
    rcases arrive_cases f (nextTurn s).2 with ⟨hbound, hroom, _⟩ | ⟨_, ea⟩
    · exact .delivers (by simpa [delivers, ht, arrivalEnabled] using And.intro hbound hroom)
    · have := hnear (by simp [ht])
      exact .nearer (by simp [ea]) (by simp; omega)
  · have := hnear (by simp [ht])
    exact .inr (.inr ⟨_, e, by simpa, .nearer (by simp) (by simp; omega)⟩)
  · exact .inl ht

/-- No step has been taken yet, and the UPDATE is in progress. -/
theorem stillUpdating_zero {s : State} (hb : s.busy = true) : StillUpdating 0 s := by
  intro m hm u hu
  obtain rfl := Nat.le_zero.mp hm
  cases hu
  exact hb

/-- An UPDATE that is in progress before a step and for `k` steps after it. -/
theorem stillUpdating_of_step {k : Nat} {s u : State} (h : step s = .next u) (hb : s.busy = true)
    (hu : StillUpdating k u) : StillUpdating (k + 1) s := by
  intro m hm v hv
  cases m with
  | zero => exact stillUpdating_zero hb 0 le_rfl v hv
  | succ m => exact hu m (by omega) v ((run_succ m s u h).symm.trans hv)

/-- A step before those of a run, and one step more on which the delivery may have to wait. -/
theorem endsOrDelivers_of_step {n : Nat} {s u : State} (h : step s = .next u) (hb : s.busy = true)
    (hu : EndsOrDelivers n u) : EndsOrDelivers (n + 1) s := by
  obtain ⟨k, t, hrun, hstill, hend⟩ := hu
  refine ⟨k + 1, t, (run_succ k s u h).trans hrun, stillUpdating_of_step h hb hstill, ?_⟩
  exact hend.imp_right (Or.imp_right fun ⟨hn, hd⟩ => ⟨Nat.succ_le_succ hn, hd⟩)

/-- A delivery at a later step is one at an earlier step or later. -/
theorem EndsOrDelivers.mono {n m : Nat} {s : State} (h : EndsOrDelivers m s) (hnm : n ≤ m) : EndsOrDelivers n s := by
  obtain ⟨k, t, hrun, hstill, hend⟩ := h
  exact ⟨k, t, hrun, hstill, hend.imp_right (Or.imp_right fun ⟨hm, hd⟩ => ⟨hnm.trans hm, hd⟩)⟩

/-- Where no frame is delivered any more, the UPDATE ends: its frames run out, and while none is dispatched the block's
turn comes nearer. -/
theorem endsOrDelivers_zero (s : State) (hb : s.busy = true) : EndsOrDelivers 0 s := by
  rcases ends_or_goesOn s hb with hreset | hend | ⟨u, hstep, hbu, hgo⟩
  · exact ⟨0, s, rfl, stillUpdating_zero hb, .inl hreset⟩
  · exact ⟨0, s, rfl, stillUpdating_zero hb, .inr (.inl hend)⟩
  · cases hgo with
    | delivers hd => exact ⟨0, s, rfl, stillUpdating_zero hb, .inr (.inr ⟨le_rfl, hd⟩)⟩
    | dispatches hlt => exact (endsOrDelivers_of_step hstep hb (endsOrDelivers_zero u hbu)).mono (Nat.zero_le _)
    | nearer hq hlt => exact (endsOrDelivers_of_step hstep hb (endsOrDelivers_zero u hbu)).mono (Nat.zero_le _)
termination_by (s.rxq.length, s.agenda.length + s.delay)
decreasing_by
  · exact Prod.Lex.left _ _ hlt
  · rw [hq]; exact Prod.Lex.right _ hlt

/-- From every state an UPDATE ends unless frames keep arriving: `n` steps, and then `endsOrDelivers_zero`. -/
theorem endsOrDelivers (n : Nat) (s : State) (hb : s.busy = true) : EndsOrDelivers n s := by
  induction n generalizing s with
  | zero => exact endsOrDelivers_zero s hb
  | succ n ih =>
    rcases ends_or_goesOn s hb with hreset | hend | ⟨u, hstep, hbu, _⟩
    · exact ⟨0, s, rfl, stillUpdating_zero hb, .inl hreset⟩
    · exact ⟨0, s, rfl, stillUpdating_zero hb, .inr (.inl hend)⟩
    · exact endsOrDelivers_of_step hstep hb (ih u hbu)

/-- Settles O60: fixed turns by counting the block's, open ones by the fairness of the UPDATE's steps. -/
theorem updateEndsWhenArrivalsDo : Obligations.UpdateEndsWhenArrivalsDo :=
  ⟨endsWithin_of_blockTurns, fun s n hb => endsOrDelivers n s hb⟩

end Sys2Proof.Machine

namespace Sys2Proof.Machine

/-! ## Proofs for spec/30_encoding.md: the decoder, one equation per opcode (R81) -/

section DecodeByOpcode

variable {c : Command}

theorem decode_op0 (h : opOf c = 0x0#4) : decode c = .reserved0 := by rw [decode, h]; rfl
theorem decode_op1 (h : opOf c = 0x1#4) :
    decode c = .encode (fieldApi c) (fieldNum c) (fieldMfr c) (fieldType c) := by rw [decode, h]; rfl
theorem decode_op2 (h : opOf c = 0x2#4) : decode c = .decode (fieldId c) := by rw [decode, h]; rfl
theorem decode_op3 (h : opOf c = 0x3#4) : decode c = .key (fieldNum c) (fieldMfr c) (fieldType c) := by
  rw [decode, h]; rfl
theorem decode_op4 (h : opOf c = 0x4#4) : decode c = .matchKey (fieldId c) (fieldKey c) := by rw [decode, h]; rfl
theorem decode_op5 (h : opOf c = 0x5#4) : decode c = .bind (fieldCtrl c) (fieldIrq c) := by rw [decode, h]; rfl
theorem decode_op6 (h : opOf c = 0x6#4) :
    decode c = .register (fieldH c) (fieldNum c) (fieldMfr c) (fieldType c) := by rw [decode, h]; rfl
theorem decode_op7 (h : opOf c = 0x7#4) : decode c = .unregister (fieldH c) := by rw [decode, h]; rfl
theorem decode_op8 (h : opOf c = 0x8#4) : decode c = .update := by rw [decode, h]; rfl
theorem decode_op9 (h : opOf c = 0x9#4) :
    decode c = .writePacket (fieldApi c) (fieldNum c) (fieldMfr c) (fieldType c) (fieldLen c)
      (payloadOfData c.data) := by rw [decode, h]; rfl
theorem decode_opA (h : opOf c = 0xA#4) :
    decode c = .writeRtr (fieldApi c) (fieldNum c) (fieldMfr c) (fieldType c) (fieldLen c) := by rw [decode, h]; rfl
theorem decode_opB (h : opOf c = 0xB#4) : decode c = .reservedB := by rw [decode, h]; rfl
theorem decode_opC (h : opOf c = 0xC#4) : decode c = .reservedC := by rw [decode, h]; rfl
theorem decode_opD (h : opOf c = 0xD#4) : decode c = .reservedD := by rw [decode, h]; rfl
theorem decode_opE (h : opOf c = 0xE#4) : decode c = .reservedE := by rw [decode, h]; rfl
theorem decode_opF (h : opOf c = 0xF#4) : decode c = .reservedF := by rw [decode, h]; rfl

end DecodeByOpcode

/-! ## Proofs for spec/30_encoding.md: decoding an encoded command (R76 to R80, R89) -/

/-- Reading the payload that was packed into `DATA` gives it back (R53). -/
theorem payloadOfData_dataOfPayload (p : Payload) : payloadOfData (dataOfPayload p) = p := by
  obtain ⟨h0, h1, h2, h3, h4, h5, h6, h7⟩ := payloadPacking.2 p
  simp only [payloadOfData, h0, h1, h2, h3, h4, h5, h6, h7]

/-- The key of MATCH is the low 29 bits of `DATA` (R77). -/
theorem extractKey_setWidth (k : Ident) : (k.setWidth 64).extractLsb' 0 29 = k := by
  rw [BitVec.extractLsb'_setWidth_of_le (by decide), BitVec.extractLsb'_eq_self]

/-- Settles O1: the encoder puts the command's own opcode in `CW[3:0]`, and each field that the decoder of that opcode
reads is the operand that was put there. -/
theorem decodeEncodeRoundTrip : Obligations.DecodeEncodeRoundTrip := by
  intro i
  cases i with
  | encode api num mfr type =>
    rw [decode_op1 (Laws.EncodedOpcode.encode api num mfr type)]
    simp only [encode, fieldApi, fieldNum, fieldMfr, fieldType, formatI_api, formatI_num, formatI_mfr, formatI_type]
  | decode id =>
    rw [decode_op2 (Laws.EncodedOpcode.decode id)]
    simp only [encode, fieldId, formatD_id]
  | key num mfr type =>
    rw [decode_op3 (Laws.EncodedOpcode.key num mfr type)]
    simp only [encode, fieldNum, fieldMfr, fieldType, formatI_num, formatI_mfr, formatI_type]
  | matchKey id k =>
    rw [decode_op4 (Laws.EncodedOpcode.matchKey id k)]
    simp only [encode, fieldId, fieldKey, formatD_id, extractKey_setWidth]
  | bind ctrl irq =>
    rw [decode_op5 (Laws.EncodedOpcode.bind ctrl irq)]
    simp only [encode, fieldCtrl, fieldIrq, formatB_ctrl, formatB_irq]
  | register h num mfr type =>
    rw [decode_op6 (Laws.EncodedOpcode.register h num mfr type)]
    simp only [encode, fieldH, fieldNum, fieldMfr, fieldType, formatI_h, formatI_num, formatI_mfr, formatI_type]
  | unregister h =>
    rw [decode_op7 (Laws.EncodedOpcode.unregister h)]
    simp only [encode, fieldH, formatH_h]
  | update => exact decode_op8 Laws.EncodedOpcode.update
  | writePacket api num mfr type len data =>
    rw [decode_op9 (Laws.EncodedOpcode.writePacket api num mfr type len data)]
    simp only [encode, fieldApi, fieldNum, fieldMfr, fieldType, fieldLen, formatI_api, formatI_num, formatI_mfr,
      formatI_type, formatI_len, payloadOfData_dataOfPayload]
  | writeRtr api num mfr type len =>
    rw [decode_opA (Laws.EncodedOpcode.writeRtr api num mfr type len)]
    simp only [encode, fieldApi, fieldNum, fieldMfr, fieldType, fieldLen, formatI_api, formatI_num, formatI_mfr,
      formatI_type, formatI_len]
  | reserved0 => exact decode_op0 Laws.EncodedOpcode.reserved0
  | reservedB => exact decode_opB Laws.EncodedOpcode.reservedB
  | reservedC => exact decode_opC Laws.EncodedOpcode.reservedC
  | reservedD => exact decode_opD Laws.EncodedOpcode.reservedD
  | reservedE => exact decode_opE Laws.EncodedOpcode.reservedE
  | reservedF => exact decode_opF Laws.EncodedOpcode.reservedF

/-! ## Proofs for spec/30_encoding.md: encoding a decoded command masks its words (R83) -/

/-- The bits of a 64-bit word that its field of `n` bits from bit `o` on occupies. -/
def fieldMask (o n : Nat) : Word64 := (BitVec.allOnes n).setWidth 64 <<< o

/-- A field read from a word and put back in its place is the word under the field's mask. -/
theorem extract_shiftLeft_eq_and (w : Word64) (o n : Nat) :
    (w.extractLsb' o n).setWidth 64 <<< o = w &&& fieldMask o n := by
  apply BitVec.eq_of_getLsbD_eq
  intro k hk
  by_cases ho : k < o
  · simp [fieldMask, ho]
  · have hback : o + (k - o) = k := by omega
    simp [fieldMask, ho, hback, hk, Bool.and_comm]

/-- `extract_shiftLeft_eq_and` for the field at bit 0, which needs no shift. -/
theorem extract_eq_and (w : Word64) (n : Nat) : (w.extractLsb' 0 n).setWidth 64 = w &&& fieldMask 0 n := by
  simpa using extract_shiftLeft_eq_and w 0 n

/-- A field that is not written has no bit in the word. -/
theorem zeroField (n o : Nat) : (0 : BitVec n).setWidth 64 <<< o = 0#64 := by simp

section FormatsOfFields

/-! Each format filled with the fields read from `CW` is `CW` under the mask of those fields. -/

variable {c : Command} {op : BitVec 4}

theorem formatN_eq_and (h : opOf c = op) : formatN op = c.cw &&& 0x000000000000000F#64 := by
  rw [← h]
  exact extract_eq_and c.cw 4

theorem formatH_eq_and (h : opOf c = op) : formatH op (fieldH c) = c.cw &&& 0x0000000000000FFF#64 := by
  rw [← h, formatH, opOf, fieldH, extract_eq_and, extract_shiftLeft_eq_and, ← BitVec.and_or_distrib_left]
  rfl

theorem formatB_eq_and (h : opOf c = op) :
    formatB op (fieldCtrl c) (fieldIrq c) = c.cw &&& 0x00000000000FFFFF#64 := by
  simp only [← h, formatB, opOf, fieldCtrl, fieldIrq, extract_eq_and, extract_shiftLeft_eq_and,
    ← BitVec.and_or_distrib_left]
  rfl

theorem formatD_eq_and (h : opOf c = op) : formatD op (fieldId c) = c.cw &&& 0x00000001FFFFFFFF#64 := by
  simp only [← h, formatD, opOf, fieldId, extract_eq_and, extract_shiftLeft_eq_and, ← BitVec.and_or_distrib_left]
  rfl

/-- The fields of ENCODE (R103). -/
theorem formatI_encode_eq_and (h : opOf c = op) :
    formatI op (num := fieldNum c) (mfr := fieldMfr c) (type := fieldType c) (api := fieldApi c) =
      c.cw &&& 0x000FFFFFFFFFF00F#64 := by
  simp only [← h, formatI, opOf, fieldNum, fieldMfr, fieldType, fieldApi, extract_eq_and, extract_shiftLeft_eq_and,
    zeroField, BitVec.or_zero, ← BitVec.and_or_distrib_left]
  rfl

/-- The fields of KEY (R105). -/
theorem formatI_key_eq_and (h : opOf c = op) :
    formatI op (num := fieldNum c) (mfr := fieldMfr c) (type := fieldType c) = c.cw &&& 0x0000000FFFFFF00F#64 := by
  simp only [← h, formatI, opOf, fieldNum, fieldMfr, fieldType, extract_eq_and, extract_shiftLeft_eq_and,
    zeroField, BitVec.or_zero, ← BitVec.and_or_distrib_left]
  rfl

/-- The fields of REGISTER (R141). -/
theorem formatI_register_eq_and (h : opOf c = op) :
    formatI op (h := fieldH c) (num := fieldNum c) (mfr := fieldMfr c) (type := fieldType c) =
      c.cw &&& 0x0000000FFFFFFFFF#64 := by
  simp only [← h, formatI, opOf, fieldH, fieldNum, fieldMfr, fieldType, extract_eq_and, extract_shiftLeft_eq_and,
    zeroField, BitVec.or_zero, ← BitVec.and_or_distrib_left]
  rfl

/-- The fields of WRITE_PACKET and WRITE_RTR (R180, R181). -/
theorem formatI_transmit_eq_and (h : opOf c = op) :
    formatI op (num := fieldNum c) (mfr := fieldMfr c) (type := fieldType c) (api := fieldApi c) (len := fieldLen c) =
      c.cw &&& 0x00FFFFFFFFFFF00F#64 := by
  simp only [← h, formatI, opOf, fieldNum, fieldMfr, fieldType, fieldApi, fieldLen, extract_eq_and,
    extract_shiftLeft_eq_and, zeroField, BitVec.or_zero, ← BitVec.and_or_distrib_left]
  rfl

end FormatsOfFields

/-- The words of `c` without the bits that its command does not read (R83). -/
def readBits (c : Command) : Command :=
  { cw := c.cw &&& WellFormed.cwMask (opOf c), data := c.data &&& WellFormed.dataMask (opOf c) }

/-- Encoding a decoded command keeps the bits that the command reads, and clears the others (R76 to R80, R89). -/
theorem encode_decode (c : Command) : encode (decode c) = readBits c := by
  rcases opcode_cases (opOf c) with h | h | h | h | h | h | h | h | h | h | h | h | h | h | h | h <;>
    rw [readBits, h]
  · rw [decode_op0 h]; exact congrArg₂ Command.mk (formatN_eq_and h) BitVec.and_zero.symm
  · rw [decode_op1 h]; exact congrArg₂ Command.mk (formatI_encode_eq_and h) BitVec.and_zero.symm
  · rw [decode_op2 h]; exact congrArg₂ Command.mk (formatD_eq_and h) BitVec.and_zero.symm
  · rw [decode_op3 h]; exact congrArg₂ Command.mk (formatI_key_eq_and h) BitVec.and_zero.symm
  · rw [decode_op4 h]; exact congrArg₂ Command.mk (formatD_eq_and h) (extract_eq_and c.data 29)
  · rw [decode_op5 h]; exact congrArg₂ Command.mk (formatB_eq_and h) BitVec.and_zero.symm
  · rw [decode_op6 h]; exact congrArg₂ Command.mk (formatI_register_eq_and h) BitVec.and_zero.symm
  · rw [decode_op7 h]; exact congrArg₂ Command.mk (formatH_eq_and h) BitVec.and_zero.symm
  · rw [decode_op8 h]; exact congrArg₂ Command.mk (formatN_eq_and h) BitVec.and_zero.symm
  · rw [decode_op9 h]
    exact congrArg₂ Command.mk (formatI_transmit_eq_and h)
      ((dataOfPayload_payloadOfData c.data).trans BitVec.and_allOnes.symm)
  · rw [decode_opA h]; exact congrArg₂ Command.mk (formatI_transmit_eq_and h) BitVec.and_zero.symm
  · rw [decode_opB h]; exact congrArg₂ Command.mk (formatN_eq_and h) BitVec.and_zero.symm
  · rw [decode_opC h]; exact congrArg₂ Command.mk (formatN_eq_and h) BitVec.and_zero.symm
  · rw [decode_opD h]; exact congrArg₂ Command.mk (formatN_eq_and h) BitVec.and_zero.symm
  · rw [decode_opE h]; exact congrArg₂ Command.mk (formatN_eq_and h) BitVec.and_zero.symm
  · rw [decode_opF h]; exact congrArg₂ Command.mk (formatN_eq_and h) BitVec.and_zero.symm

/-- A word has no bit outside a mask where the mask leaves it as it is. -/
theorem and_not_eq_zero_iff (w m : Word64) : w &&& ~~~m = 0#64 ↔ w &&& m = w := by
  have hsplit : w &&& m ||| w &&& ~~~m = w := by
    rw [← BitVec.and_or_distrib_left, BitVec.or_not_self, BitVec.and_allOnes]
  constructor
  · intro h
    rwa [h, BitVec.or_zero] at hsplit
  · intro h
    rw [← h, BitVec.and_assoc, BitVec.and_not_self]
    exact BitVec.and_zero

/-- A command is written as R83 asks where the bits that it reads are all it has. -/
theorem wellFormed_iff_readBits (c : Command) : WellFormed.command c = true ↔ readBits c = c := by
  have hcw : WellFormed.cwClean c = true ↔ c.cw &&& WellFormed.cwMask (opOf c) = c.cw :=
    beq_iff_eq.trans (and_not_eq_zero_iff _ _)
  have hdata : WellFormed.dataClean c = true ↔ c.data &&& WellFormed.dataMask (opOf c) = c.data :=
    beq_iff_eq.trans (and_not_eq_zero_iff _ _)
  rw [WellFormed.command, Bool.and_eq_true, hcw, hdata, ← Command.mk.injEq]
  rfl

/-- Settles O2: encoding a decoded command clears the bits that the command does not read. -/
theorem encodeDecodeIffClean : Obligations.EncodeDecodeIffClean := by
  intro c
  rw [encode_decode]
  exact wellFormed_iff_readBits c

/-! ## Proofs for spec/30_encoding.md: what the block ignores (R83) -/

/-- Every command reads its opcode. -/
theorem cwMask_low (op : BitVec 4) : (WellFormed.cwMask op).extractLsb' 0 4 = BitVec.allOnes 4 := by
  revert op; decide

/-- The bits that a command reads have its opcode among them. -/
theorem opcode_and_cwMask (w : Word64) (op : BitVec 4) :
    (w &&& WellFormed.cwMask op).extractLsb' 0 4 = w.extractLsb' 0 4 := by
  rw [BitVec.extractLsb'_and, cwMask_low, BitVec.and_allOnes]

/-- Clearing the bits that the command does not read does not change what the words decode to. -/
theorem decode_readBits (c : Command) : decode (readBits c) = decode c := by
  rw [← encode_decode, decodeEncodeRoundTrip]

/-- Settles O3: the two commands have the same opcode, so the same bits read, so they decode to the same command. -/
theorem reservedBitsIgnored : Obligations.ReservedBitsIgnored := by
  intro c c' rest s hcw hdata
  have hop : opOf c = opOf c' := by
    rw [opOf, ← opcode_and_cwMask c.cw (opOf c), hcw, opcode_and_cwMask, opOf]
  have hread : readBits c = readBits c' := by rw [readBits, readBits, hcw, hdata, hop]
  have hdecode : decode c = decode c' := by rw [← decode_readBits, hread, decode_readBits]
  simp only [acceptCommand, hdecode]

/-! ## Proofs for spec/30_encoding.md: the opcode selects the command (R81, R82) -/

/-- Settles O5, opcode by opcode. -/
theorem opcodeSelectsCommand : Obligations.OpcodeSelectsCommand := by
  intro c
  rcases opcode_cases (opOf c) with h | h | h | h | h | h | h | h | h | h | h | h | h | h | h | h
  · rw [decode_op0 h, opcodeOf, h]
  · rw [decode_op1 h, opcodeOf, h]
  · rw [decode_op2 h, opcodeOf, h]
  · rw [decode_op3 h, opcodeOf, h]
  · rw [decode_op4 h, opcodeOf, h]
  · rw [decode_op5 h, opcodeOf, h]
  · rw [decode_op6 h, opcodeOf, h]
  · rw [decode_op7 h, opcodeOf, h]
  · rw [decode_op8 h, opcodeOf, h]
  · rw [decode_op9 h, opcodeOf, h]
  · rw [decode_opA h, opcodeOf, h]
  · rw [decode_opB h, opcodeOf, h]
  · rw [decode_opC h, opcodeOf, h]
  · rw [decode_opD h, opcodeOf, h]
  · rw [decode_opE h, opcodeOf, h]
  · rw [decode_opF h, opcodeOf, h]

/-- Settles O29: the decoder's equation for each reserved opcode, and what `fail` returns. -/
theorem reservedOpcodesAreIllegal : Obligations.ReservedOpcodesAreIllegal :=
  ⟨fun _ => ⟨decode_op0, decode_opB, decode_opC, decode_opD, decode_opE, decode_opF⟩,
    fun _ => ⟨rfl, rfl, rfl, rfl, rfl, rfl⟩⟩

/-- Settles O4: the decoder's equation for each example's opcode, and the opcode and the fields by computation. -/
theorem specWordsDecode : Obligations.SpecWordsDecode :=
  ⟨decode_op1 rfl, decode_op2 rfl, decode_op4 rfl, decode_op5 rfl, decode_op6 rfl, decode_op7 rfl, decode_op8 rfl,
    decode_op9 rfl, decode_opA rfl, decode_op0 rfl⟩

/-! ## Proofs for spec/30_encoding.md: the sub-index is the API id (R73, R74, R121) -/

/-- The sub-index is `id[15:6]` (R121). -/
theorem subIndex_eq_extract (id : Ident) : subIndex id = id.extractLsb' 6 10 := by
  apply BitVec.eq_of_getLsbD_eq
  intro k hk
  rw [subIndex_getLsbD, BitVec.getLsbD_extractLsb', Nat.add_comm]
  simp [hk]

/-- Settles O13: the masks by computation, and the sub-index bit by bit. -/
theorem subIsApiId : Obligations.SubIsApiId :=
  ⟨⟨rfl, rfl, rfl⟩, by decide, by decide, fun id => ⟨rfl, subIndex_eq_extract id, subIndex_eq_extract id⟩⟩

end Sys2Proof.Machine

namespace Sys2Proof.Machine

open Sys2Proof.Safety

/-! ## Proofs for spec/40_codec.md: an operand and its field (R84) -/

section Fields

variable {w n : Nat}

/-- An operand that fits its field comes back from the field. -/
theorem setWidth_extract_of_toNat_lt (x : BitVec w) (h : x.toNat < 2 ^ n) : (x.extractLsb' 0 n).setWidth w = x := by
  apply BitVec.eq_of_toNat_eq
  simp [Nat.mod_eq_of_lt h]

/-- A field's value comes back from the operand it is widened to. -/
theorem extract_setWidth_of_le (x : BitVec n) (h : n ≤ w) : (x.setWidth w).extractLsb' 0 n = x := by
  rw [BitVec.extractLsb'_setWidth_of_le (by omega), BitVec.extractLsb'_eq_self]

/-- Truncating an operand to its field forgets what taking it modulo the field's range forgets. -/
theorem extract_umod_of_toNat_eq (x m : BitVec w) (hm : m.toNat = 2 ^ n) :
    (x % m).extractLsb' 0 n = x.extractLsb' 0 n := by
  apply BitVec.eq_of_toNat_eq
  simp [hm]

/-- Adding a value of at most `o` bits to one shifted by `o` is joining the two by `|`. -/
theorem shiftLeft_add_eq_or (hi lo : BitVec w) (o : Nat) (h : ∀ k, o ≤ k → lo.getLsbD k = false) :
    hi <<< o + lo = hi <<< o ||| lo := by
  apply BitVec.add_eq_or_of_and_eq_zero
  apply BitVec.eq_of_getLsbD_eq
  intro k _
  by_cases hk : k < o
  · simp [hk]
  · simp [h k (by omega)]

end Fields

/-- The four fields of an identifier do not overlap, so joining them by `|` is adding them (R72, R100). -/
theorem fields_or_eq_add (dtype : BitVec 5) (mfr : BitVec 8) (api : BitVec 10) (num : BitVec 6) :
    (dtype.setWidth 29 <<< 24) ||| (mfr.setWidth 29 <<< 16) ||| (api.setWidth 29 <<< 6) ||| num.setWidth 29 =
      (dtype.setWidth 29 <<< 24) + (mfr.setWidth 29 <<< 16) + (api.setWidth 29 <<< 6) + num.setWidth 29 := by
  have hnum (k : Nat) (hk : 6 ≤ k) : (num.setWidth 29).getLsbD k = false := by simp [hk]
  have hapi (k : Nat) (hk : 16 ≤ k) : (api.setWidth 29 <<< 6 ||| num.setWidth 29).getLsbD k = false := by
    simp [show 6 ≤ k by omega, show 10 ≤ k - 6 by omega]
  have hmfr (k : Nat) (hk : 24 ≤ k) :
      (mfr.setWidth 29 <<< 16 ||| (api.setWidth 29 <<< 6 ||| num.setWidth 29)).getLsbD k = false := by
    simp [hapi k (by omega), show 8 ≤ k - 16 by omega]
  rw [BitVec.add_assoc, BitVec.add_assoc, shiftLeft_add_eq_or _ _ 6 hnum, shiftLeft_add_eq_or _ _ 16 hapi,
    shiftLeft_add_eq_or _ _ 24 hmfr, BitVec.or_assoc, BitVec.or_assoc]

/-! ## Proofs for spec/40_codec.md: the fields of an encoded identifier (R100, R102, R108, R109) -/

section EncodedFields

variable (api : BitVec 16) (num mfr type : BitVec 8)

theorem enc_type : (enc api num mfr type).extractLsb' 24 5 = type.extractLsb' 0 5 := by
  apply BitVec.eq_of_getLsbD_eq
  intro k hk
  rw [BitVec.getLsbD_extractLsb', enc_getLsbD]
  simp [hk, show ¬ 24 + k < 6 by omega, show ¬ 24 + k < 16 by omega, show 24 + k < 29 by omega]

theorem enc_mfr : (enc api num mfr type).extractLsb' 16 8 = mfr := by
  apply BitVec.eq_of_getLsbD_eq
  intro k hk
  rw [BitVec.getLsbD_extractLsb', enc_getLsbD]
  simp [hk, show ¬ 16 + k < 6 by omega, show 16 + k < 24 by omega]

/-- The API id from its low end: all ten bits, or the four of the index view (R71). -/
theorem enc_api {n : Nat} (hn : n ≤ 10) : (enc api num mfr type).extractLsb' 6 n = api.extractLsb' 0 n := by
  apply BitVec.eq_of_getLsbD_eq
  intro k hk
  rw [BitVec.getLsbD_extractLsb', enc_getLsbD]
  simp [hk, show 6 + k < 16 by omega]

theorem enc_num : (enc api num mfr type).extractLsb' 0 6 = num.extractLsb' 0 6 := by
  apply BitVec.eq_of_getLsbD_eq
  intro k hk
  rw [BitVec.getLsbD_extractLsb', enc_getLsbD]
  simp [hk]

/-- `Dec` after `Enc` gives the truncated operands (R108). -/
theorem dec_enc : dec (enc api num mfr type) =
    { dtype := type.extractLsb' 0 5, mfr := mfr, api := api.extractLsb' 0 10, idx := api.extractLsb' 0 4
      num := num.extractLsb' 0 6 } := by
  rw [dec, enc_type, enc_mfr, enc_api _ _ _ _ (le_refl 10), enc_api _ _ _ _ (by decide), enc_num]

/-- `Enc` truncates its operands (R108). -/
theorem enc_umod : enc (api % 1024#16) (num % 64#8) mfr (type % 32#8) = enc api num mfr type := by
  rw [enc, enc, extract_umod_of_toNat_eq api 1024#16 rfl, extract_umod_of_toNat_eq num 64#8 rfl,
    extract_umod_of_toNat_eq type 32#8 rfl]

/-- `Key` truncates its operands, for it is `Enc` of API id 0 (R102, R108). -/
theorem keyOf_umod : keyOf (num % 64#8) mfr (type % 32#8) = keyOf num mfr type := enc_umod 0 num mfr type

/-- The key is the masking of every identifier of the identity (R109). -/
theorem enc_and_matchMask : enc api num mfr type &&& matchMask = keyOf num mfr type := by
  apply BitVec.eq_of_getLsbD_eq
  intro k _
  rw [and_matchMask_getLsbD, keyOf, enc_getLsbD, enc_getLsbD]
  by_cases hapi : 6 ≤ k ∧ k < 16
  · simp [hapi, show ¬ k < 6 by omega]
  · by_cases hnum : k < 6
    · simp [hnum, show ¬ 6 ≤ k by omega]
    · simp [hnum, show ¬ k < 16 by omega]

end EncodedFields

/-! ## Proofs for spec/40_codec.md: an identifier from its fields (R101, R107) -/

/-- The index view is the low four bits of the API id (R71, R101). -/
theorem dec_idx (id : Ident) : (dec id).idx = (dec id).api.extractLsb' 0 4 := by
  apply BitVec.eq_of_getLsbD_eq
  intro k hk
  simp [dec, hk, show k < 10 by omega]

/-- `Enc` after `Dec` gives the identifier back (R107): each bit is a bit of the field it lies in. -/
theorem enc_dec (id : Ident) :
    enc ((dec id).api.setWidth 16) ((dec id).num.setWidth 8) (dec id).mfr ((dec id).dtype.setWidth 8) = id := by
  apply BitVec.eq_of_getLsbD_eq
  intro k _
  rw [enc_getLsbD]
  split_ifs with h6 h16 h24
  · simp [dec, h6, show k < 8 by omega]
  · simp [dec, show k - 6 < 10 by omega, show k - 6 < 16 by omega, show 6 + (k - 6) = k by omega]
  · simp [dec, show k - 16 < 8 by omega, show 16 + (k - 16) = k by omega]
  · simp [dec, show k - 24 < 5 by omega, show k - 24 < 8 by omega, show 24 + (k - 24) = k by omega]

/-- The fields of an identifier, widened to operands, are in their valid ranges (R107). -/
theorem operandsInRange_dec (id : Ident) :
    OperandsInRange ((dec id).api.setWidth 16) ((dec id).num.setWidth 8) ((dec id).dtype.setWidth 8) := by
  have hapi := (dec id).api.isLt
  have hnum := (dec id).num.isLt
  have htype := (dec id).dtype.isLt
  refine ⟨?_, ?_, ?_⟩ <;> simp only [BitVec.le_def, BitVec.toNat_setWidth, BitVec.toNat_ofNat] <;> omega

/-! ## Proofs for spec/40_codec.md: the laws (R100, R101, R106 to R109) -/

/-- Settles O7: the fields one by one, and the sum because they do not overlap. -/
theorem encPacksFields : Obligations.EncPacksFields := fun _ _ _ _ =>
  ⟨rfl, ⟨enc_type .., enc_mfr .., enc_api _ _ _ _ (le_refl 10), enc_num ..⟩, fields_or_eq_add ..⟩

/-- Settles O8: putting the fields back is `Enc` of the fields, which truncates none of them. -/
theorem decPartitionsIdentifier : Obligations.DecPartitionsIdentifier := by
  refine fun id => ⟨?_, dec_idx id⟩
  have h := enc_dec id
  rwa [enc, extract_setWidth_of_le _ (by decide), extract_setWidth_of_le _ (by decide),
    extract_setWidth_of_le _ (by decide), BitVec.extractLsb'_eq_self] at h

/-- Settles O9: decoding gives the truncated operands, and truncation leaves one that is in range as it is. -/
theorem decAfterEncRecovers : Obligations.DecAfterEncRecovers := by
  rintro api num mfr type ⟨hapi, hnum, htype⟩
  simp only [BitVec.le_def, BitVec.toNat_ofNat] at hapi hnum htype
  rw [dec_enc]
  exact ⟨setWidth_extract_of_toNat_lt _ (by omega), setWidth_extract_of_toNat_lt _ (by omega), rfl,
    setWidth_extract_of_toNat_lt _ (by omega), rfl⟩

/-- Settles O10: the operands of an identifier are its fields, and no others in range, for decoding recovers those. -/
theorem encAfterDecRecovers : Obligations.EncAfterDecRecovers := by
  refine ⟨enc_dec, fun id => ⟨_, _, _, _, operandsInRange_dec id, enc_dec id, ?_⟩⟩
  rintro api num mfr type hr rfl
  obtain ⟨hapi, hnum, hmfr, htype, _⟩ := decAfterEncRecovers api num mfr type hr
  exact ⟨hapi.symm, hnum.symm, hmfr.symm, htype.symm⟩

/-- Settles O11: `Enc` and `Key` truncate each operand to its field, and `Dec` reads the fields. -/
theorem operandsTruncate : Obligations.OperandsTruncate := fun _ _ _ _ =>
  ⟨(enc_umod ..).symm, (keyOf_umod ..).symm, dec_enc ..⟩

/-- Settles O12: the key is `Enc` of API id 0, so it is among the identifiers whose masking it is. -/
theorem keyLaws : Obligations.KeyLaws := fun _ _ _ =>
  ⟨keyOf_api .., enc_and_matchMask .., fun _ => enc_and_matchMask .., enc_type .., enc_mfr .., enc_num ..⟩

/-! ## Proofs for spec/40_codec.md: the commands (R103 to R105, R110) -/

/-- Settles O49, command by command: each returns a result computed from its operands alone. -/
theorem pureCommandsReadNoState : Obligations.PureCommandsReadNoState := by
  intro i hi
  cases i with
  | encode api num mfr type => exact ⟨_, rfl, fun _ => rfl⟩
  | decode id => exact ⟨_, rfl, fun _ => rfl⟩
  | key num mfr type => exact ⟨_, rfl, fun _ => rfl⟩
  | matchKey id k => exact ⟨_, rfl, execMatch_eq id k⟩
  | _ => cases hi

/-- Settles O19: the decoder's equation for opcode 1, the truncation law, and the examples by computation. -/
theorem encodeReturnsIdentifier : Obligations.EncodeReturnsIdentifier :=
  ⟨fun _ => decode_op1, fun _ _ _ _ _ => rfl, fun mfr => (enc_umod 0x7A3 0x45 mfr 0x22).symm, rfl, rfl,
    decode_op1 rfl, rfl⟩

/-- Settles O20: the decoder's equation for opcode 2, and the examples by computation. -/
theorem decodeReturnsFields : Obligations.DecodeReturnsFields :=
  ⟨fun _ => decode_op2, fun _ _ => rfl, rfl, rfl, rfl, decode_op2 rfl, rfl⟩

/-- Settles O21: the decoder's equation for opcode 3, the key laws, and the examples by computation. -/
theorem keyReturnsKey : Obligations.KeyReturnsKey :=
  ⟨fun _ => decode_op3, fun _ _ _ _ => rfl, fun _ _ _ => ⟨(keyOf_umod ..).symm, keyOf_api ..⟩, rfl,
    decode_op3 rfl, rfl⟩

end Sys2Proof.Machine

namespace Sys2Proof.Machine

/-! ## Proofs for spec/41_filter.md: the masked identifier, the sub-index and the key (R120, R121) -/

/-- An identifier matches the key that its masking is (R120). -/
theorem matchesKey_iff (id k : Ident) : matchesKey id k = true ↔ id &&& matchMask = k := beq_iff_eq

/-- An identifier misses every key but its masking. -/
theorem matchesKey_eq_false_iff (id k : Ident) : matchesKey id k = false ↔ id &&& matchMask ≠ k := beq_eq_false_iff_ne

/-- No bit of the API id is left in a masked identifier (R73). -/
theorem and_matchMask_api (id : Ident) : (id &&& matchMask).extractLsb' 6 10 = 0 := by
  apply BitVec.eq_of_getLsbD_eq
  intro n hn
  rw [BitVec.getLsbD_extractLsb', and_matchMask_getLsbD]
  simp [show 6 + n < 16 by omega]

/-- Masking leaves a key without API-id bits as it is. -/
theorem and_matchMask_of_api_eq_zero {k : Ident} (hk : k.extractLsb' 6 10 = 0) : k &&& matchMask = k := by
  apply BitVec.eq_of_getLsbD_eq
  intro n _
  rw [and_matchMask_getLsbD]
  split_ifs with hn
  · have hbit : (k.extractLsb' 6 10).getLsbD (n - 6) = false := by rw [hk]; exact BitVec.getLsbD_zero
    rw [BitVec.getLsbD_extractLsb', Nat.add_sub_cancel' hn.1] at hbit
    simpa [show n - 6 < 10 by omega] using hbit.symm
  · rfl

/-- Masking does not depend on bits 15:6 of the identifier (R122). -/
theorem and_matchMask_congr {id id' : Ident} (h : ∀ n < 29, n < 6 ∨ 16 ≤ n → id.getLsbD n = id'.getLsbD n) :
    id &&& matchMask = id' &&& matchMask := by
  apply BitVec.eq_of_getLsbD_eq
  intro n hn
  rw [and_matchMask_getLsbD, and_matchMask_getLsbD]
  split_ifs with hapi
  · rfl
  · exact h n hn (by omega)

/-- The sub-index depends on bits 15:6 of the identifier alone (R122). -/
theorem subIndex_congr {id id' : Ident} (h : ∀ n, 6 ≤ n → n < 16 → id.getLsbD n = id'.getLsbD n) :
    subIndex id = subIndex id' := by
  apply BitVec.eq_of_getLsbD_eq
  intro n hn
  rw [subIndex_getLsbD, subIndex_getLsbD, h (n + 6) (by omega) (by omega)]

/-- A key with an API-id bit set is the masking of no identifier (R125). -/
theorem and_matchMask_ne_of_api_ne_zero (id : Ident) {k : Ident} (hk : k.extractLsb' 6 10 ≠ 0) :
    id &&& matchMask ≠ k := by
  rintro rfl
  exact hk (and_matchMask_api id)

/-- Equal keys have equal truncated operands (R102, R109). -/
theorem fields_eq_of_keyOf_eq {num mfr type num' mfr' type' : BitVec 8}
    (h : keyOf num' mfr' type' = keyOf num mfr type) :
    num.extractLsb' 0 6 = num'.extractLsb' 0 6 ∧ mfr = mfr' ∧ type.extractLsb' 0 5 = type'.extractLsb' 0 5 := by
  have hdec := congrArg dec h
  simp only [keyOf, dec_enc, IdFields.mk.injEq] at hdec
  obtain ⟨htype, hmfr, _, _, hnum⟩ := hdec
  exact ⟨hnum.symm, hmfr.symm, htype.symm⟩

/-! ## Proofs for spec/41_filter.md: the identifiers of a key (R126) -/

/-- The identifier with the identity of the key `k` and the API id `a`. -/
def identOf (k : Ident) (a : BitVec 10) : Ident := k ||| (a.setWidth 29 <<< 6)

/-- An API id in its place has no bit that MATCH_MASK keeps (R73). -/
theorem apiField_and_matchMask (a : BitVec 10) : (a.setWidth 29 <<< 6) &&& matchMask = 0 := by
  apply BitVec.eq_of_getLsbD_eq
  intro n _
  rw [and_matchMask_getLsbD]
  split_ifs with hapi
  · simp
  · by_cases h6 : n < 6
    · simp [h6]
    · simp [show 10 ≤ n - 6 by omega]

/-- An API id in its place is read back from there (R74). -/
theorem apiField_extract (a : BitVec 10) : (a.setWidth 29 <<< 6).extractLsb' 6 10 = a := by
  apply BitVec.eq_of_getLsbD_eq
  intro n hn
  simp [hn, show 6 + n < 29 by omega]

/-- Every identifier is the one of its masking and its sub-index (R122). -/
theorem identOf_and_matchMask (id : Ident) : identOf (id &&& matchMask) (subIndex id) = id := by
  apply BitVec.eq_of_getLsbD_eq
  intro n hn
  rw [identOf, BitVec.getLsbD_or, and_matchMask_getLsbD, BitVec.getLsbD_shiftLeft, BitVec.getLsbD_setWidth,
    subIndex_getLsbD]
  split_ifs with hapi hlt
  · simp [hn, show ¬ n < 6 by omega, show n - 6 < 29 by omega, show n - 6 + 6 = n by omega]
  · omega
  · simp [show n < 6 by omega]
  · simp

section KeyWithoutApiBits

variable {k : Ident} (hk : k.extractLsb' 6 10 = 0)
include hk

theorem matchesKey_identOf (a : BitVec 10) : matchesKey (identOf k a) k = true := by
  rw [matchesKey_iff, identOf, BitVec.and_or_distrib_right, and_matchMask_of_api_eq_zero hk, apiField_and_matchMask]
  exact BitVec.or_zero

theorem subIndex_identOf (a : BitVec 10) : subIndex (identOf k a) = a := by
  rw [subIndex_eq_extract, identOf, BitVec.extractLsb'_or, hk, apiField_extract]
  exact BitVec.zero_or

/-- The identifiers that match a key are those of the key, one per API id. -/
theorem setOf_matchesKey_eq_range : { id : Ident | matchesKey id k = true } = Set.range (identOf k) := by
  apply Set.Subset.antisymm
  · intro id hid
    have hmask : id &&& matchMask = k := (matchesKey_iff id k).mp hid
    exact ⟨subIndex id, hmask ▸ identOf_and_matchMask id⟩
  · rintro _ ⟨a, rfl⟩
    exact matchesKey_identOf hk a

theorem identOf_injective : Function.Injective (identOf k) :=
  Function.LeftInverse.injective (subIndex_identOf hk)

/-- A key matches as many identifiers as there are API ids. -/
theorem ncard_matchesKey : { id : Ident | matchesKey id k = true }.ncard = 1024 := by
  rw [setOf_matchesKey_eq_range hk, Set.ncard_range_of_injective (identOf_injective hk),
    Nat.card_congr BitVec.equivFin.toEquiv, Nat.card_fin]
  norm_num

end KeyWithoutApiBits

/-! ## Proofs for spec/41_filter.md: the laws of the filter (R122 to R126) -/

/-- Settles O14: what the mask keeps, and what the sub-index reads. -/
theorem filterMasksSeparate : Obligations.FilterMasksSeparate :=
  ⟨fun _ _ k h => congrArg (· == k) (and_matchMask_congr h), fun _ _ => subIndex_congr⟩

/-- Settles O15: an identifier's masking is the key of its identity, and equal keys have equal fields. -/
theorem filterIsCorrect : Obligations.FilterIsCorrect := by
  refine ⟨fun api num mfr type => ⟨?_, ?_⟩, fun api num mfr type num' mfr' type' hne => ?_⟩
  · rw [matchesKey_iff, enc_and_matchMask]
  · rw [subIndex_eq_extract, enc_api _ _ _ _ (le_refl 10)]
  · rw [matchesKey_eq_false_iff, enc_and_matchMask]
    intro hkey
    obtain ⟨hnum, hmfr, htype⟩ := fields_eq_of_keyOf_eq hkey
    rcases hne with h | h | h
    · exact h hnum
    · exact h hmfr
    · exact h htype

/-- Settles O16: a masked identifier has no API-id bit, and neither has a computed key. -/
theorem keyWithApiBitsNeverMatches : Obligations.KeyWithApiBitsNeverMatches :=
  ⟨fun id k hk => (matchesKey_eq_false_iff id k).mpr (and_matchMask_ne_of_api_ne_zero id hk), keyOf_api⟩

/-- Settles O17: API ids and matching identifiers correspond one to one, and an identifier has one masking. -/
theorem keyMatchesExactly1024 : Obligations.KeyMatchesExactly1024 := by
  refine fun k hk => ⟨ncard_matchesKey hk, fun a => ⟨identOf k a, ⟨matchesKey_identOf hk a, subIndex_identOf hk a⟩, ?_⟩,
    fun k' id _ hne hmatch => ?_⟩
  · intro id hmatch hsub
    rw [matchesKey_iff] at hmatch
    rw [← hmatch, ← hsub, identOf_and_matchMask]
  · rw [matchesKey_iff] at hmatch
    rw [matchesKey_eq_false_iff, hmatch]
    exact hne.symm

/-! ## Proofs for spec/41_filter.md: MATCH (R123) -/

theorem execMatch_hit {id k : Ident} (h : id &&& matchMask = k) (s : State) :
    execMatch id k s = .next (result { status := .ok, hit := true, sub := subIndex id } s) := by
  rw [execMatch_eq, (matchesKey_iff id k).mpr h, if_pos rfl]

theorem execMatch_miss {id k : Ident} (h : id &&& matchMask ≠ k) (s : State) :
    execMatch id k s = .next (result { status := .ok, hit := false, sub := 0 } s) := by
  rw [execMatch_eq, (matchesKey_eq_false_iff id k).mpr h, if_neg Bool.false_ne_true]

/-- Settles O22: the decoder's equation for opcode 4, the two results, and the examples by computation. -/
theorem matchReturnsHit : Obligations.MatchReturnsHit :=
  ⟨fun _ => decode_op4, fun _ _ s h => execMatch_hit h s, fun _ _ s h => execMatch_miss h s,
    fun id _ => and_matchMask_ne_of_api_ne_zero id, ⟨rfl, rfl⟩, fun _ a hk => matchesKey_identOf hk a,
    decode_op4 rfl, rfl, rfl⟩

end Sys2Proof.Machine

namespace Sys2Proof.Machine

open Sys2Proof.Safety

/-! ## Proofs for spec/42_registry.md: the first of the entries of one key (R144, R146, R162) -/

/-- Behind an entry that matches, no entry decides. -/
theorem firstMatch_append_cons {id : Ident} {e : Entry} (hmatch : matchesKey id e.key = true) (pre rest : List Entry) :
    firstMatch (pre ++ e :: rest) id = firstMatch (pre ++ [e]) id := by
  simp [firstMatch, List.find?_append, hmatch]

/-- A registry with an entry that matches has a first match. -/
theorem exists_firstMatch {reg : List Entry} {id : Ident} {e : Entry} (hmem : e ∈ reg)
    (hmatch : matchesKey id e.key = true) : ∃ w, firstMatch reg id = some w :=
  Option.isSome_iff_exists.mp (List.find?_isSome.mpr ⟨e, hmem, hmatch⟩)

/-- An identifier matches one key only, so it has no match among entries of other keys. -/
theorem firstMatch_eq_none_of_keys_ne {reg : List Entry} {id k : Ident} (hmatch : matchesKey id k = true)
    (hne : ∀ p ∈ reg, p.key ≠ k) : firstMatch reg id = none := by
  refine List.find?_eq_none.mpr fun p hp hpmatch => hne p hp ?_
  rw [matchesKey_iff] at hmatch hpmatch
  exact hpmatch.symm.trans hmatch

/-- The first entry of its key is the first match of every identifier that the key matches. -/
theorem firstMatch_first_of_key {pre : List Entry} {id : Ident} {e : Entry} (hmatch : matchesKey id e.key = true)
    (hfirst : ∀ p ∈ pre, p.key ≠ e.key) : firstMatch (pre ++ [e]) id = some e := by
  have hpre : pre.find? (fun p => matchesKey id p.key) = none := firstMatch_eq_none_of_keys_ne hmatch hfirst
  simp [firstMatch, List.find?_append, hpre, hmatch]

/-- Settles O41: the first match is found up to `e`, and what stands behind `e` does not decide. -/
theorem firstRegisteredWins : Obligations.FirstRegisteredWins := by
  intro pre mid post e e' id _ hmatch
  have hwith : firstMatch (pre ++ e :: mid ++ e' :: post) id = firstMatch (pre ++ [e]) id := by
    rw [List.append_assoc, List.cons_append, firstMatch_append_cons hmatch]
  have hwithout : firstMatch (pre ++ e :: mid ++ post) id = firstMatch (pre ++ [e]) id := by
    rw [List.append_assoc, List.cons_append, firstMatch_append_cons hmatch]
  rw [hwith, hwithout]
  refine ⟨firstMatch_first_of_key hmatch, ?_⟩
  obtain ⟨w, hw⟩ := exists_firstMatch (reg := pre ++ [e]) (by simp) hmatch
  obtain ⟨hmem, _⟩ := mem_and_matchesKey_of_firstMatch hw
  exact ⟨w, hmem, hw, hw⟩

/-! ## Proofs for spec/42_registry.md: UNREGISTER (R143, R144) -/

/-- The entries that UNREGISTER leaves. -/
theorem mem_regRemove_reg (h : BitVec 8) (s : State) (e : Entry) :
    e ∈ (regRemove h s).reg ↔ e ∈ s.reg ∧ e.handle ≠ h := by
  simp [List.mem_filter]

/-- Settles O25: the decoder's equation for opcode 7, and what `regRemove` writes. -/
theorem unregisterRemovesHandle : Obligations.UnregisterRemovesHandle :=
  ⟨fun _ => decode_op7, fun _ _ => rfl⟩

/-- Settles O43: the registry is filtered, and a first match is one of the entries left. -/
theorem unregisterKeepsOrder : Obligations.UnregisterKeepsOrder := by
  intro h s t hexec
  cases hexec
  refine ⟨List.filter_sublist, mem_regRemove_reg h s, fun id e hfirst => ?_⟩
  obtain ⟨hmem, _⟩ := mem_and_matchesKey_of_firstMatch hfirst
  exact ((mem_regRemove_reg h s e).mp hmem).2

/-! ## Proofs for spec/42_registry.md: BIND and REGISTER (R140 to R142) -/

theorem execBind_unbound {s : State} (hb : s.bound = false) (ctrl irq : BitVec 8) :
    execBind ctrl irq s = .next (result { status := .ok } (bindTransport ctrl irq s)) := by
  rcases execBind_cases ctrl irq s with ⟨hn, _⟩ | ⟨_, e⟩
  · rw [hb] at hn; cases hn
  · exact e

theorem execBind_bound {s : State} (hb : s.bound = true) (ctrl irq : BitVec 8) :
    execBind ctrl irq s = .next (fail .alreadyBound s) := by
  rcases execBind_cases ctrl irq s with ⟨_, e⟩ | ⟨hn, _⟩
  · exact e
  · rw [hb] at hn; cases hn

theorem execRegister_room {s : State} (hl : s.reg.length ≠ Config.regCap) (h num mfr type : BitVec 8) :
    execRegister h num mfr type s =
      .next (result { status := .ok } (regAppend { handle := h, key := keyOf num mfr type } s)) := by
  rcases execRegister_cases h num mfr type s with ⟨hf, _⟩ | ⟨_, e⟩
  · exact absurd hf hl
  · exact e

theorem execRegister_full {s : State} (hl : s.reg.length = Config.regCap) (h num mfr type : BitVec 8) :
    execRegister h num mfr type s = .next (fail .capacityExceeded s) := by
  rcases execRegister_cases h num mfr type s with ⟨_, e⟩ | ⟨hn, _⟩
  · exact e
  · exact absurd hl hn

/-- Settles O23: the decoder's equation for opcode 5, and BIND on an unbound and on a bound block. -/
theorem bindBindsOnce : Obligations.BindBindsOnce :=
  ⟨fun _ => decode_op5, fun ctrl irq _ hb => execBind_unbound hb ctrl irq,
    fun ctrl irq _ hb => execBind_bound hb ctrl irq⟩

/-- Settles O24: the decoder's equation for opcode 6, and REGISTER with room and without. -/
theorem registerAppendsUpToCapacity : Obligations.RegisterAppendsUpToCapacity :=
  ⟨fun _ => decode_op6, fun h num mfr type _ hl => execRegister_room hl h num mfr type,
    fun h num mfr type _ hl => execRegister_full hl h num mfr type⟩

/-! ## Proofs for spec/42_registry.md: what the commands leave unchanged (R140, R141, R143, R160) -/

/-- Settles O32: each command returns a result from the state as it was or as its one operation wrote it. -/
theorem frameOfStatefulCommands : Obligations.FrameOfStatefulCommands := by
  refine ⟨fun ctrl irq s t hexec => ?bind, fun i h num mfr type s t hi hexec => ?registry, fun s t hexec => ?update⟩
  case bind =>
    rcases execBind_cases ctrl irq s with ⟨_, e⟩ | ⟨_, e⟩ <;> rw [exec, e] at hexec <;> cases hexec <;>
      simp [AgentsUnchanged]
  case registry =>
    rcases hi with rfl | rfl
    · rcases execRegister_cases h num mfr type s with ⟨_, e⟩ | ⟨_, e⟩ <;> rw [exec, e] at hexec <;> cases hexec <;>
        simp [AgentsUnchanged]
    · cases hexec
      simp [AgentsUnchanged]
  case update =>
    rcases execUpdate_cases s with ⟨_, e⟩ | ⟨_, e⟩ <;> rw [exec, e] at hexec <;> cases hexec <;>
      simp [AgentsUnchanged]

/-! ## Proofs for spec/42_registry.md: the registry and the transport do not read each other (R145, R183) -/

/-- REGISTER does not read `bound`: the tests and the writes are of `reg` alone (R145). -/
theorem execRegister_of_bound (h num mfr type : BitVec 8) (s : State) (b : Bool) :
    ∃ t, execRegister h num mfr type s = .next t ∧
      execRegister h num mfr type { s with bound := b } = .next { t with bound := b } := by
  by_cases hl : s.reg.length = Config.regCap
  · exact ⟨_, execRegister_full hl .., execRegister_full (s := { s with bound := b }) hl ..⟩
  · exact ⟨_, execRegister_room hl .., execRegister_room (s := { s with bound := b }) hl ..⟩

/-- An answer is used up in the same way whatever the registry holds. -/
theorem txAnswered_of_reg (s : State) (reg : List Entry) :
    txAnswered { s with reg := reg } = { txAnswered s with reg := reg } := by
  cases hp : s.txPlan <;> simp [txAnswered, hp]

/-- A transmit command does not read `reg`: each of its four outcomes is tested and written without it (R183). -/
theorem transmit_of_reg (f : TxFrame) (s : State) (reg : List Entry) :
    transmit f { s with reg := reg } = { transmit f s with reg := reg } := by
  have hoffer : txOffer f { s with reg := reg } = ((txOffer f s).1, { (txOffer f s).2 with reg := reg }) := by
    have hans : txAnswer { s with reg := reg } = txAnswer s := rfl
    cases ha : txAnswer s <;> simp [txOffer, hans, ha, txAnswered_of_reg]
  simp only [transmit, hoffer]
  cases transmitFailure s.bound f.len with
  | some st => rfl
  | none => cases ho : txOffer f s with
    | mk b u => cases b <;> rfl

/-- A transmit command loops no frame back into the receive queue (R183). -/
theorem transmit_rxq (f : TxFrame) (s : State) : (transmit f s).rxq = s.rxq := by
  rcases transmit_cases f s with ⟨_, e⟩ | ⟨_, _, e⟩ | ⟨_, _, _, e⟩ | ⟨_, _, _, e⟩ <;> rw [e] <;> simp

/-- Settles O50: REGISTER's two cases, UNREGISTER's filter, and the one transmission of both transmit commands. -/
theorem registryAndTransmitAreIndependent : Obligations.RegistryAndTransmitAreIndependent := by
  refine ⟨fun h num mfr type i s b hi => ?registry, fun api num mfr type len data i s reg hi => ?transmit⟩
  case registry =>
    rcases hi with rfl | rfl
    · exact execRegister_of_bound h num mfr type s b
    · exact ⟨_, rfl, rfl⟩
  case transmit =>
    rcases hi with rfl | rfl <;>
      exact ⟨_, rfl, congrArg Host.Outcome.next (transmit_of_reg _ s reg), transmit_rxq _ s⟩

end Sys2Proof.Machine

namespace Sys2Proof.Machine

/-! ## Proofs for spec/43_dispatch.md: the end step and its fairness (R165, R169) -/

/-- The block's turn, fixed or open, with an UPDATE in progress and no frame left, is the end step (R165). -/
theorem step_eq_endStep {s : State} (ht : (nextTurn s).1 = .block) (hb : s.busy = true) (hq : s.rxq = []) :
    step s = .next (endStep (nextTurn s).2) := by
  have hblock := blockTurn_busy (nextTurn s).2 (by simpa using hb)
  have hpop := rxPop_nil (nextTurn s).2 (by simpa using hq)
  simp only [step, ht, takeTurn, hblock, updateStep, hpop]

/-- While an UPDATE is in progress, the step of another agent brings the block's turn nearer by one. -/
theorem step_nearer {s : State} (hb : s.busy = true) (ht : (nextTurn s).1 ≠ .block) :
    ∃ u, step s = .next u ∧ u.agenda.length + u.delay + 1 = s.agenda.length + s.delay := by
  have hnear := nextTurn_nearer s hb ht
  rcases step_while_busy s hb with ⟨hblock, _⟩ | ⟨c, _, e⟩ | ⟨f, _, e⟩ | ⟨b, _, e⟩ | ⟨_, e⟩
  · exact absurd hblock ht
  · exact ⟨_, e, hnear⟩
  · exact ⟨_, e, by simpa using hnear⟩
  · exact ⟨_, e, hnear⟩
  · exact ⟨_, e, hnear⟩

/-- Within `n` steps from `s` the end step is not enabled any more, or it is the next step (R169). -/
def EndStepFairWithin (n : Nat) (s : State) : Prop :=
  ∃ (k : Nat) (t : State), k ≤ n ∧ Host.Core.run Sys2Proof.core k s = .next t ∧
    (¬ (t.busy = true ∧ t.rxq = []) ∨ step t = .next (endStep (nextTurn t).2))

/-- An enabled end step is weakly fair: it is next, or another agent's step disables it or leaves it enabled with the
block's turn nearer. -/
theorem endStepFairWithin (s : State) (hb : s.busy = true) (hq : s.rxq = []) :
    EndStepFairWithin (s.agenda.length + s.delay) s := by
  by_cases ht : (nextTurn s).1 = .block
  · exact ⟨0, s, Nat.zero_le _, rfl, .inr (step_eq_endStep ht hb hq)⟩
  · obtain ⟨u, hstep, hnear⟩ := step_nearer hb ht
    by_cases hu : u.busy = true ∧ u.rxq = []
    · obtain ⟨k, t, hk, hrun, hend⟩ := endStepFairWithin u hu.1 hu.2
      exact ⟨k + 1, t, by omega, (run_succ k s u hstep).trans hrun, hend⟩
    · exact ⟨1, u, by omega, run_succ 0 s u hstep, .inl hu⟩
termination_by s.agenda.length + s.delay
decreasing_by omega

/-- Settles O37: what the end step writes, and its fairness by recursion on how far off the block's turn is. -/
theorem endStepReturnsOk : Obligations.EndStepReturnsOk :=
  ⟨step_end, endStepFairWithin⟩

/-! ## Proofs for spec/43_dispatch.md: the first match (R162) -/

/-- An entry is the first match where it stands at a position whose key matches and no lesser position's does. -/
theorem firstMatch_eq_some_iff (reg : List Entry) (id : Ident) (e : Entry) :
    firstMatch reg id = some e ↔
      ∃ i : Nat, reg[i]? = some e ∧ matchesKey id e.key = true ∧
        ∀ j < i, ∀ e' : Entry, reg[j]? = some e' → matchesKey id e'.key = false := by
  rw [firstMatch, List.find?_eq_some_iff_getElem]
  constructor
  · rintro ⟨hmatch, i, hi, rfl, hbefore⟩
    refine ⟨i, List.getElem?_eq_getElem hi, hmatch, fun j hj e' he' => ?_⟩
    obtain ⟨_, rfl⟩ := List.getElem?_eq_some_iff.mp he'
    simpa using hbefore j hj
  · rintro ⟨i, hget, hmatch, hbefore⟩
    obtain ⟨hi, he⟩ := List.getElem?_eq_some_iff.mp hget
    refine ⟨hmatch, i, hi, he, fun j hj => ?_⟩
    simpa using hbefore j hj _ (List.getElem?_eq_getElem (hj.trans hi))

/-- There is no first match where no entry's key matches. -/
theorem firstMatch_eq_none_iff (reg : List Entry) (id : Ident) :
    firstMatch reg id = none ↔ ∀ e ∈ reg, matchesKey id e.key = false := by
  simp [firstMatch]

/-- Settles O40: `List.find?` searches from the head, so it stops at the least position. -/
theorem firstMatchIsLeastPosition : Obligations.FirstMatchIsLeastPosition := fun reg id =>
  ⟨firstMatch_eq_some_iff reg id, firstMatch_eq_none_iff reg id⟩

/-! ## Proofs for spec/43_dispatch.md: the event of a frame (R161, R163, R164) -/

/-- The match path (R163). -/
theorem eventOf_of_some {reg : List Entry} {f : RxFrame} {e : Entry} (h : firstMatch reg f.id = some e) :
    eventOf reg f = .matched e.handle (subIndex f.id) f.rtr f.len f.data := by
  rw [eventOf, h]

/-- The unknown path (R164). -/
theorem eventOf_of_none {reg : List Entry} {f : RxFrame} (h : firstMatch reg f.id = none) :
    eventOf reg f = .unknown f.id f.len f.data := by
  rw [eventOf, h]

/-- Settles O44: the path is chosen by the first match, and that by the identifier. -/
theorem onlyIdentifierRoutes : Obligations.OnlyIdentifierRoutes := by
  intro reg f f' hid
  cases h : firstMatch reg f.id with
  | some e =>
    obtain ⟨hmem, _⟩ := mem_and_matchesKey_of_firstMatch h
    have h' : firstMatch reg f'.id = some e := by rwa [hid]
    exact .inl ⟨e, hmem, eventOf_of_some h, by rw [eventOf_of_some h', hid]⟩
  | none =>
    have h' : firstMatch reg f'.id = none := by rwa [hid]
    exact .inr ⟨eventOf_of_none h, by rw [eventOf_of_none h', hid]⟩

/-- Settles O36: the dispatch step hands over the event of the head frame, on the match path or the unknown path. -/
theorem dispatchStepHandsOneEvent : Obligations.DispatchStepHandsOneEvent := by
  intro s f fs ts ha hb hq
  rw [step_dispatch s f fs ts ha hb hq]
  exact ⟨fun e hfirst => by rw [eventOf_of_some hfirst, evPush], fun hfirst => by rw [eventOf_of_none hfirst, evPush]⟩

/-! ## Proofs for spec/43_dispatch.md: UPDATE's start step (R160) -/

theorem execUpdate_bound {s : State} (hb : s.bound = true) : execUpdate s = .next { s with busy := true } := by
  rcases execUpdate_cases s with ⟨hn, _⟩ | ⟨_, e⟩
  · rw [hb] at hn; cases hn
  · exact e

theorem execUpdate_unbound {s : State} (hb : s.bound = false) : execUpdate s = .next (fail .notBound s) := by
  rcases execUpdate_cases s with ⟨_, e⟩ | ⟨hn, _⟩
  · exact e
  · rw [hb] at hn; cases hn

/-- Settles O26: the decoder's equation for opcode 8, and the start step on a bound and on an unbound block. -/
theorem updateStarts : Obligations.UpdateStarts :=
  ⟨fun _ => decode_op8, fun _ => execUpdate_bound, fun _ => execUpdate_unbound⟩

/-! ## Proofs for spec/43_dispatch.md: arrivals (R170) -/

theorem arrive_of_room {s : State} (hb : s.bound = true) (hroom : s.rxq.length < Config.rxqDepth) (f : RxFrame) :
    arrive f s = { s with rxq := s.rxq ++ [f] } := by
  rcases arrive_cases f s with ⟨_, _, e⟩ | ⟨hn | hfull, _⟩
  · exact e
  · rw [hb] at hn; cases hn
  · omega

theorem arrive_of_unbound_or_full {s : State} (h : s.bound = false ∨ Config.rxqDepth ≤ s.rxq.length) (f : RxFrame) :
    arrive f s = s := by
  rcases arrive_cases f s with ⟨hb, hroom, _⟩ | ⟨_, e⟩
  · rcases h with hn | hfull
    · rw [hb] at hn; cases hn
    · omega
  · exact e

/-- Settles O38: the fixed turn is an arrival, with room for the frame on a bound block or without. -/
theorem arrivalAppendsFrame : Obligations.ArrivalAppendsFrame := by
  intro s f ts ha
  rw [step_of_agenda s (.arrive f) ts ha, takeTurn]
  exact ⟨fun hb hroom => by rw [arrive_of_room (s := { s with agenda := ts }) hb hroom],
    fun h => by rw [arrive_of_unbound_or_full (s := { s with agenda := ts }) h]⟩

end Sys2Proof.Machine

namespace Sys2Proof.Machine

/-! ## Proofs for spec/44_transmit.md: the transport's answer to an offer (R182) -/

/-- A settled answer is used up by the offer (log entry 4). -/
theorem txAnswered_settled {s : State} {b : Bool} {bs : List Bool} (h : s.txPlan = b :: bs) :
    txAnswered s = { s with txPlan := bs } := by
  rw [txAnswered, h]

/-- Where no answer is settled, the offer draws one free value (log entry 4). -/
theorem txAnswered_free {s : State} (h : s.txPlan = []) : txAnswered s = { s with draws := s.draws + 1 } := by
  rw [txAnswered, h]

/-- Settles O30: an offer by its answer, settled or free, and how that answer is used up. -/
theorem offerFollowsAnswer : Obligations.OfferFollowsAnswer := by
  refine ⟨fun f s bs h => ?accepted, fun f s bs h => ?rejected, fun f s h => ?free⟩
  case accepted => rw [txOffer, txAnswer_settled s _ _ h, if_pos rfl, txAnswered_settled h]
  case rejected => rw [txOffer, txAnswer_settled s _ _ h, if_neg Bool.false_ne_true, txAnswered_settled h]
  case free => rw [txOffer, txAnswer_free s h, txAnswered_free h]

/-! ## Proofs for spec/44_transmit.md: WRITE_PACKET and WRITE_RTR (R180, R181, R203) -/

section Transmit

variable {f : TxFrame} {s : State}

theorem transmit_unbound (hb : s.bound = false) : transmit f s = fail .notBound s := by
  rcases transmit_cases f s with ⟨_, e⟩ | ⟨hn, _⟩ | ⟨hn, _⟩ | ⟨hn, _⟩
  · exact e
  all_goals rw [hb] at hn; cases hn

theorem transmit_tooLong (hb : s.bound = true) (hl : Config.maxLen < f.len) :
    transmit f s = fail .lengthInvalid s := by
  rcases transmit_cases f s with ⟨hn, _⟩ | ⟨_, _, e⟩ | ⟨_, hn, _⟩ | ⟨_, hn, _⟩
  · rw [hb] at hn; cases hn
  · exact e
  all_goals exact absurd hl (BitVec.not_lt.mpr hn)

/-- A bound block offers a frame of legal length, and the transport's answer is the command's outcome. -/
theorem transmit_legal (hb : s.bound = true) (hl : f.len ≤ Config.maxLen) :
    transmit f s =
      if txAnswer s then
        { txAnswered s with txlog := s.txlog ++ [f], results := s.results ++ [{ status := .ok }] }
      else { txAnswered s with results := s.results ++ [{ status := .transportRejected }] } := by
  rcases transmit_cases f s with ⟨hn, _⟩ | ⟨_, hn, _⟩ | ⟨_, _, ha, e⟩ | ⟨_, _, ha, e⟩
  · rw [hb] at hn; cases hn
  · exact absurd hn (BitVec.not_lt.mpr hl)
  · rw [e, ha, if_pos rfl, result, txAnswered_results]
  · rw [e, ha, if_neg Bool.false_ne_true, fail, result, txAnswered_results]

/-- The four outcomes of a command that transmits `f`, each under the tests that lead to it, in R203's order. -/
theorem exec_transmit_outcomes {i : Instr} (hi : exec i s = .next (transmit f s)) :
    (s.bound = true → f.len ≤ Config.maxLen → txAnswer s = true →
      exec i s =
        .next { txAnswered s with txlog := s.txlog ++ [f], results := s.results ++ [{ status := .ok }] }) ∧
    (s.bound = true → f.len ≤ Config.maxLen → txAnswer s = false →
      exec i s = .next { txAnswered s with results := s.results ++ [{ status := .transportRejected }] }) ∧
    (s.bound = true → Config.maxLen < f.len →
      exec i s = .next { s with results := s.results ++ [{ status := .lengthInvalid }] }) ∧
    (s.bound = false → exec i s = .next { s with results := s.results ++ [{ status := .notBound }] }) := by
  rw [hi]
  refine ⟨fun hb hl ha => ?accepted, fun hb hl ha => ?rejected, fun hb hl => ?tooLong, fun hb => ?unbound⟩
  case accepted => rw [transmit_legal hb hl, ha, if_pos rfl]
  case rejected => rw [transmit_legal hb hl, ha, if_neg Bool.false_ne_true]
  case tooLong => rw [transmit_tooLong hb hl, fail, result]
  case unbound => rw [transmit_unbound hb, fail, result]

end Transmit

/-- Settles O27: the decoder's equation for opcode 9, and the outcomes of transmitting the data frame. -/
theorem writePacketOffersFrame : Obligations.WritePacketOffersFrame :=
  ⟨fun _ => decode_op9, fun num mfr type api len data _ =>
    exec_transmit_outcomes (f := { id := enc api num mfr type, rtr := false, len, data }) rfl⟩

/-- Settles O28: the decoder's equation for opcode 10, and the outcomes of transmitting the remote frame. -/
theorem writeRtrOffersFrame : Obligations.WriteRtrOffersFrame :=
  ⟨fun _ => decode_opA, fun num mfr type api len _ =>
    exec_transmit_outcomes (f := { id := enc api num mfr type, rtr := true, len, data := zeroPayload }) rfl⟩

/-! ## Proofs for spec/44_transmit.md: what the commands leave unchanged (R180 to R182) -/

/-- Settles O33: both commands are the transmission of their frame, and each of its outcomes writes `txlog` at most. -/
theorem frameOfTransmitCommands : Obligations.FrameOfTransmitCommands := by
  intro api num mfr type len data i f s t hi hexec
  obtain rfl : transmit f s = t := by
    rcases hi with ⟨rfl, rfl⟩ | ⟨rfl, rfl⟩ <;> exact Host.Outcome.next.inj hexec
  rcases transmit_cases f s with ⟨_, e⟩ | ⟨_, _, e⟩ | ⟨_, _, _, e⟩ | ⟨_, _, _, e⟩ <;> rw [e] <;> simp

end Sys2Proof.Machine

namespace Sys2Proof.Machine

open Sys2Proof.Safety

/-! ## Proofs for spec/60_exceptions.md: what a command returns (R200 to R204) -/

/-- From `s` to `t` one result is returned, with one of the statuses `sts`; where it is not OK, the block's state is as
it was (R202, R204). -/
def ReturnsOneOf (sts : List Status) (s t : State) : Prop :=
  ∃ r : Result, r.status ∈ sts ∧ t.results = s.results ++ [r] ∧ (r.status ≠ .ok → BlockUnchanged s t)

/-- OK can be returned whatever has been written. -/
theorem returnsOneOf_ok {sts : List Status} {s u : State} {r : Result} (hu : u.results = s.results)
    (hr : r.status = .ok) (hmem : .ok ∈ sts) : ReturnsOneOf sts s (result r u) :=
  ⟨r, hr ▸ hmem, by rw [result_results, hu], fun hne => absurd hr hne⟩

/-- `fail` leaves the block's state as it found it. -/
theorem returnsOneOf_fail {sts : List Status} {s u : State} {st : Status} (hu : u.results = s.results)
    (hmem : st ∈ sts) (hblock : BlockUnchanged s u) : ReturnsOneOf sts s (fail st u) :=
  ⟨{ status := st }, hmem, by rw [fail_results, hu], fun _ => hblock⟩

/-- Returning a status other than OK from `s` itself. -/
theorem returnsOneOf_fail_self {sts : List Status} {st : Status} (hmem : st ∈ sts) (s : State) :
    ReturnsOneOf sts s (fail st s) :=
  returnsOneOf_fail rfl hmem ⟨rfl, rfl, rfl, rfl, rfl, rfl, rfl, rfl⟩

/-- A transmit command returns one of the four statuses of its row; a rejected offer has used up an answer, which is not
the block's (R182, R202, R203). -/
theorem transmit_returns (f : TxFrame) (s : State) :
    ReturnsOneOf [.ok, .notBound, .lengthInvalid, .transportRejected] s (transmit f s) := by
  rcases transmit_cases f s with ⟨_, e⟩ | ⟨_, _, e⟩ | ⟨_, _, _, e⟩ | ⟨_, _, _, e⟩ <;> rw [e]
  · exact returnsOneOf_fail_self (by decide) s
  · exact returnsOneOf_fail_self (by decide) s
  · exact returnsOneOf_ok (txAnswered_results s) rfl (by decide)
  · exact returnsOneOf_fail (txAnswered_results s) (by decide) (by simp [BlockUnchanged])

/-- Every command answers a next state, and has returned a status of its row, or has started an UPDATE. -/
theorem exec_returns (i : Instr) (s : State) :
    ∃ t : State, exec i s = .next t ∧
      (ReturnsOneOf (statusesOf i) s t ∨ (i = .update ∧ s.bound = true ∧ t = { s with busy := true })) := by
  cases i with
  | encode api num mfr type => exact ⟨_, rfl, .inl (returnsOneOf_ok rfl rfl (.head _))⟩
  | decode id => exact ⟨_, rfl, .inl (returnsOneOf_ok rfl rfl (.head _))⟩
  | key num mfr type => exact ⟨_, rfl, .inl (returnsOneOf_ok rfl rfl (.head _))⟩
  | matchKey id k => exact ⟨_, execMatch_eq id k s, .inl (returnsOneOf_ok rfl rfl (.head _))⟩
  | bind ctrl irq =>
    rcases execBind_cases ctrl irq s with ⟨_, e⟩ | ⟨_, e⟩
    · exact ⟨_, e, .inl (returnsOneOf_fail_self (.tail _ (.head _)) s)⟩
    · exact ⟨_, e, .inl (returnsOneOf_ok rfl rfl (.head _))⟩
  | register h num mfr type =>
    rcases execRegister_cases h num mfr type s with ⟨_, e⟩ | ⟨_, e⟩
    · exact ⟨_, e, .inl (returnsOneOf_fail_self (.tail _ (.head _)) s)⟩
    · exact ⟨_, e, .inl (returnsOneOf_ok rfl rfl (.head _))⟩
  | unregister h => exact ⟨_, rfl, .inl (returnsOneOf_ok rfl rfl (.head _))⟩
  | update =>
    rcases execUpdate_cases s with ⟨_, e⟩ | ⟨hb, e⟩
    · exact ⟨_, e, .inl (returnsOneOf_fail_self (.head _) s)⟩
    · exact ⟨_, e, .inr ⟨rfl, hb, rfl⟩⟩
  | writePacket api num mfr type len data => exact ⟨_, rfl, .inl (transmit_returns _ s)⟩
  | writeRtr api num mfr type len => exact ⟨_, rfl, .inl (transmit_returns _ s)⟩
  | reserved0 | reservedB | reservedC | reservedD | reservedE | reservedF =>
    exact ⟨_, rfl, .inl (returnsOneOf_fail_self (.head _) s)⟩

/-- `exec_returns` of the next state a command has answered. -/
theorem returns_of_exec {i : Instr} {s t : State} (h : exec i s = .next t) :
    ReturnsOneOf (statusesOf i) s t ∨ (i = .update ∧ s.bound = true ∧ t = { s with busy := true }) := by
  obtain ⟨t', h', hret⟩ := exec_returns i s
  obtain rfl : t' = t := Host.Outcome.next.inj (h'.symm.trans h)
  exact hret

/-- Settles O47: `exec_returns` for the commands, `updateStep_cases` for the end step, and the codes by computation. -/
theorem statusesOfCommands : Obligations.StatusesOfCommands := by
  refine ⟨fun i s t h => ?command, fun s hq => ?endStep, rfl, rfl, rfl, rfl, rfl, rfl, rfl⟩
  case command =>
    rcases returns_of_exec h with ⟨r, hmem, hres, _⟩ | ⟨rfl, hb, rfl⟩
    · exact .inl ⟨r, hres, hmem⟩
    · exact .inr ⟨rfl, hb, rfl, rfl⟩
  case endStep =>
    rcases updateStep_cases s with ⟨_, e⟩ | ⟨f, rest, hcons, _⟩
    · rw [e, endStep, result_results]
    · rw [hq] at hcons; cases hcons

/-- Settles O48: the result returned is the one of `exec_returns`, and an UPDATE that starts returns none. -/
theorem failureWritesNothing : Obligations.FailureWritesNothing := by
  intro i s t r h hres hne
  rcases returns_of_exec h with ⟨r', _, hres', hblock⟩ | ⟨_, _, rfl⟩
  · have hr : r' = r := by simpa using hres'.symm.trans hres
    exact hblock (hr ▸ hne)
  · have hnone : s.results = s.results ++ [r] := hres
    simp at hnone

/-! ## Proofs for spec/60_exceptions.md: no step stops the machine (R200, R206) -/

/-- The block's turn answers a next state: a part of an UPDATE, nothing, or a command. -/
theorem exists_blockTurn_eq_next (s : State) : ∃ t : State, blockTurn s = .next t := by
  rcases blockTurn_cases s with ⟨_, e⟩ | ⟨_, _, e⟩ | ⟨c, rest, _, _, e⟩
  · exact ⟨_, e⟩
  · exact ⟨_, e⟩
  · obtain ⟨t, ht, _⟩ := exec_returns (decode c) { s with port := rest }
    exact ⟨t, e.trans ht⟩

/-- Settles O46: `exec_returns` for the commands; of the turns only the block's executes one. -/
theorem nothingStopsTheMachine : Obligations.NothingStopsTheMachine := by
  refine ⟨fun i s => ?command, fun s => ?step⟩
  case command =>
    obtain ⟨t, ht, _⟩ := exec_returns i s
    exact ⟨t, ht⟩
  case step =>
    rw [step]
    cases (nextTurn s).1 with
    | block => exact exists_blockTurn_eq_next _
    | issue _ | arrive _ | answer _ | reset => exact ⟨_, rfl⟩

/-! ## Proofs for spec/60_exceptions.md: no command reads or writes the receive queue (R58) -/

/-- An answer is used up in the same way whatever frames are buffered. -/
theorem txAnswered_of_rxq (s : State) (q : List RxFrame) :
    txAnswered { s with rxq := q } = { txAnswered s with rxq := q } := by
  cases hp : s.txPlan <;> simp [txAnswered, hp]

/-- A transmit command does not read `rxq`: the tests and writes of its four outcomes are made without it. -/
theorem transmit_of_rxq (f : TxFrame) (s : State) (q : List RxFrame) :
    transmit f { s with rxq := q } = { transmit f s with rxq := q } := by
  rcases transmit_cases f s with ⟨hb, e⟩ | ⟨hb, hl, e⟩ | ⟨hb, hl, ha, e⟩ | ⟨hb, hl, ha, e⟩ <;> rw [e]
  · exact transmit_unbound hb
  · exact transmit_tooLong hb hl
  all_goals
    have ha' : txAnswer { s with rxq := q } = _ := ha
    rw [transmit_legal (s := { s with rxq := q }) hb hl, ha', txAnswered_of_rxq]
    simp [result, fail]

/-- A command does not read `rxq`. -/
theorem exec_of_rxq {i : Instr} {s t : State} (h : exec i s = .next t) (q : List RxFrame) :
    exec i { s with rxq := q } = .next { t with rxq := q } := by
  cases i with
  | matchKey id k =>
    rw [exec, execMatch_eq] at h ⊢
    cases h; rfl
  | bind ctrl irq =>
    rcases execBind_cases ctrl irq s with ⟨hb, e⟩ | ⟨hb, e⟩ <;> rw [exec, e] at h <;> cases h
    · exact execBind_bound (s := { s with rxq := q }) hb ..
    · exact execBind_unbound (s := { s with rxq := q }) hb ..
  | register hd num mfr type =>
    rcases execRegister_cases hd num mfr type s with ⟨hl, e⟩ | ⟨hl, e⟩ <;> rw [exec, e] at h <;> cases h
    · exact execRegister_full (s := { s with rxq := q }) hl ..
    · exact execRegister_room (s := { s with rxq := q }) hl ..
  | update =>
    rcases execUpdate_cases s with ⟨hb, e⟩ | ⟨hb, e⟩ <;> rw [exec, e] at h <;> cases h
    · exact execUpdate_unbound (s := { s with rxq := q }) hb
    · exact execUpdate_bound (s := { s with rxq := q }) hb
  | writePacket api num mfr type len data => cases h; exact congrArg _ (transmit_of_rxq _ s q)
  | writeRtr api num mfr type len => cases h; exact congrArg _ (transmit_of_rxq _ s q)
  | encode _ _ _ _ | decode _ | key _ _ _ | unregister _
  | reserved0 | reservedB | reservedC | reservedD | reservedE | reservedF => cases h; rfl

/-- A command leaves `rxq` as it is. -/
theorem exec_rxq {i : Instr} {s t : State} (h : exec i s = .next t) : t.rxq = s.rxq := by
  rcases exec_cases i s t h with ⟨_, rfl⟩ | ⟨_, _, _, _, rfl⟩ | ⟨_, _, _, _, _, _, rfl⟩ | ⟨_, _, rfl⟩ |
    ⟨_, _, rfl⟩ | ⟨_, _, _, _, _, _, _, rfl⟩ | ⟨_, _, _, _, _, _, rfl⟩
  · rfl
  · rfl
  · rfl
  · rfl
  · rfl
  · exact transmit_rxq ..
  · exact transmit_rxq ..

/-! ## Proofs for spec/60_exceptions.md: no step reads a timestamp (R208) -/

/-- Both outcomes are next states, and these differ in the timestamps of the frames in `rxq` alone. -/
def AgreeButTs (o o' : Host.Outcome State Fault Refusal) : Prop :=
  ∃ (t : State) (q' : List RxFrame), o = .next t ∧ o' = .next { t with rxq := q' } ∧
    q'.map withoutTs = t.rxq.map withoutTs

/-- An open turn is chosen by `busy`, the delay and the free values, not by `rxq`. -/
theorem openTurn_of_rxq (s : State) (q : List RxFrame) :
    openTurn { s with rxq := q } = ((openTurn s).1, { (openTurn s).2 with rxq := q }) := by
  rcases openTurn_cases s with ⟨hb, e⟩ | ⟨hb, hd, e⟩ | ⟨d, hb, hd, e⟩ <;> rw [e]
  · exact openTurn_idle _ hb
  · exact openTurn_due _ hb hd
  · exact openTurn_delayed _ d hb hd

/-- The choice of a turn does not read `rxq`. -/
theorem nextTurn_of_rxq (s : State) (q : List RxFrame) :
    nextTurn { s with rxq := q } = ((nextTurn s).1, { (nextTurn s).2 with rxq := q }) := by
  cases ha : s.agenda with
  | nil => simpa [nextTurn, ha] using openTurn_of_rxq s q
  | cons u rest => simp [nextTurn, ha]

/-- The event of a frame does not tell its timestamp. -/
theorem eventOf_congr {f g : RxFrame} (h : withoutTs f = withoutTs g) (reg : List Entry) :
    eventOf reg f = eventOf reg g := by
  simp only [withoutTs, Prod.mk.injEq] at h
  obtain ⟨hid, hrtr, hlen, hdata⟩ := h
  simp only [eventOf, hid, hrtr, hlen, hdata]

section Timestamps

variable {s : State} {q : List RxFrame} (hq : q.map withoutTs = s.rxq.map withoutTs)

include hq

/-- A part of an UPDATE: both queues are empty, or both heads give the same event. -/
theorem agreeButTs_updateStep : AgreeButTs (.next (updateStep s)) (.next (updateStep { s with rxq := q })) := by
  rcases updateStep_cases s with ⟨hnil, e⟩ | ⟨f, rest, hcons, e⟩ <;> rw [e]
  · rw [hnil, List.map_nil, List.map_eq_nil_iff] at hq
    subst hq
    refine ⟨_, [], rfl, ?_, by simp [endStep, hnil]⟩
    rw [updateStep, rxPop_nil _ rfl]; rfl
  · rw [hcons, List.map_cons, List.map_eq_cons_iff] at hq
    obtain ⟨g, rest', rfl, hhead, htail⟩ := hq
    refine ⟨_, rest', rfl, ?_, htail⟩
    rw [updateStep, rxPop_cons _ g rest' rfl]
    exact congrArg (fun e => Host.Outcome.next (evPush e { s with rxq := rest' })) (eventOf_congr hhead s.reg)

/-- The block's turn: a part of an UPDATE, nothing, or a command, which does not read `rxq`. -/
theorem agreeButTs_blockTurn : AgreeButTs (blockTurn s) (blockTurn { s with rxq := q }) := by
  rcases blockTurn_cases s with ⟨hb, e⟩ | ⟨hb, hp, e⟩ | ⟨c, rest, hb, hp, e⟩ <;> rw [e]
  · rw [blockTurn_busy { s with rxq := q } hb]
    exact agreeButTs_updateStep hq
  · exact ⟨s, q, rfl, blockTurn_idle _ hb hp, hq⟩
  · obtain ⟨t, ht, _⟩ := exec_returns (decode c) { s with port := rest }
    rw [blockTurn_accepts { s with rxq := q } c rest hb hp]
    exact ⟨t, q, ht, exec_of_rxq ht q, by rw [exec_rxq ht, hq]⟩

/-- An arrival: whether it is enabled is a matter of how many frames are buffered. -/
theorem agreeButTs_arrive (f : RxFrame) : AgreeButTs (.next (arrive f s)) (.next (arrive f { s with rxq := q })) := by
  have hlen : q.length = s.rxq.length := by simpa using congrArg List.length hq
  rcases arrive_cases f s with ⟨hb, hroom, e⟩ | ⟨hno, e⟩ <;> rw [e]
  · refine ⟨_, q ++ [f], rfl, ?_, by simp [hq]⟩
    rw [arrive_of_room (s := { s with rxq := q }) hb (by simpa [hlen] using hroom)]
  · refine ⟨s, q, rfl, ?_, hq⟩
    rw [arrive_of_unbound_or_full (s := { s with rxq := q }) (by simpa [hlen] using hno)]

/-- Each agent's turn. -/
theorem agreeButTs_takeTurn (u : Turn) : AgreeButTs (takeTurn u s) (takeTurn u { s with rxq := q }) := by
  cases u with
  | block => exact agreeButTs_blockTurn hq
  | issue c => exact ⟨_, q, rfl, rfl, hq⟩
  | arrive f => exact agreeButTs_arrive hq f
  | answer b => exact ⟨_, q, rfl, rfl, hq⟩
  | reset => exact ⟨_, [], rfl, rfl, rfl⟩

end Timestamps

/-- Settles O45: the choice of a turn does not read `rxq`, and each turn reads no timestamp in it. -/
theorem timestampsAreNotRead : Obligations.TimestampsAreNotRead := by
  intro s q hq
  change AgreeButTs (step s) (step { s with rxq := q })
  rw [step, step, nextTurn_of_rxq s q]
  exact agreeButTs_takeTurn (by rw [nextTurn_rxq, hq]) _

end Sys2Proof.Machine
